-- ==== Sys2Proof/Word.lean ====
section
/-!
DEFINITION. The two word types of the MH640: a byte of its three serial links, and a value of its
32-bit millisecond time counter (overview 6.2).
-/

namespace Sys2Proof

/-- One byte of a Station Link, Bay Bus or Train Link frame. -/
abbrev Byte := BitVec 8

/-- A value of the time counter: milliseconds, taken modulo 2^32 (overview 6.2, R165). -/
abbrev Time := BitVec 32

/-- A cell strength, 0 to 1023 (R24). -/
abbrev Strength := BitVec 10

end Sys2Proof
end

