-- ==== Sys2Proof/Syntax.lean ====
section
/-!
DEFINITION. The commands of the MH640: one constructor for each row of spec/opcode_table.json.
A request row carries the tag and the payload bytes of its Station Link frame (section 11.2), so that
every length, face and range check of R161, R162 and R172 is the machine's own.
A row that is a deadline passing names the face (and the bay) whose deadline it is.
-/

namespace Sys2Proof

/-- The two platform edges (overview 2.1). -/
inductive Face where
  | a
  | b
  deriving DecidableEq, Repr

/-- The five line inputs, each with a line filter of its own (R151). -/
inductive Line where
  | enable (f : Face)
  | loop (f : Face)
  | fire
  deriving DecidableEq, Repr

/-- The commands, in the order of the table. -/
inductive Instr where
  | powerOn
  | identify (tag : Byte) (payload : List Byte)
  | timeSet (tag : Byte) (payload : List Byte)
  | restart (tag : Byte) (payload : List Byte)
  | loadBegin (tag : Byte) (payload : List Byte)
  /-- `fields` are the payload bytes after the record kind byte 1. -/
  | loadRecordBay (tag : Byte) (fields : List Byte)
  /-- `fields` are the payload bytes after the record kind byte 2. -/
  | loadRecordCell (tag : Byte) (fields : List Byte)
  /-- The payload is 3, `code`, 1 and then `rest`. -/
  | consistFirstPart (tag : Byte) (code : Byte) (rest : List Byte)
  /-- `fields` are the payload bytes after the record kind byte 3. -/
  | consistContinuation (tag : Byte) (fields : List Byte)
  /-- `fields` are the payload bytes after the record kind byte 4. -/
  | loadRecordStop (tag : Byte) (fields : List Byte)
  /-- `fields` are the payload bytes after the record kind byte 5. -/
  | loadRecordParam (tag : Byte) (fields : List Byte)
  | loadRecordUnknownKind (tag : Byte) (payload : List Byte)
  | loadEnd (tag : Byte) (payload : List Byte)
  | loadEndEarly (tag : Byte) (payload : List Byte)
  | loadAbandon (tag : Byte) (payload : List Byte)
  | statusFace (tag : Byte) (payload : List Byte)
  | statusBays (tag : Byte) (payload : List Byte)
  | readAlignment (tag : Byte) (payload : List Byte)
  | readCounts (tag : Byte) (payload : List Byte)
  | readFaults (tag : Byte) (payload : List Byte)
  | readRelease (tag : Byte) (payload : List Byte)
  | expectConsist (tag : Byte) (payload : List Byte)
  | openOrder (tag : Byte) (payload : List Byte)
  | withdrawOrder (tag : Byte) (payload : List Byte)
  | closeOrder (tag : Byte) (payload : List Byte)
  | remeasure (tag : Byte) (payload : List Byte)
  | dwellSet (tag : Byte) (payload : List Byte)
  | connectHold (tag : Byte) (payload : List Byte)
  | connectCancel (tag : Byte) (payload : List Byte)
  | isolateBay (tag : Byte) (payload : List Byte)
  | restoreBay (tag : Byte) (payload : List Byte)
  | faultMask (tag : Byte) (payload : List Byte)
  | faultClear (tag : Byte) (payload : List Byte)
  | faceResume (tag : Byte) (payload : List Byte)
  | emergencyOpen (tag : Byte) (payload : List Byte)
  | releaseReset (tag : Byte) (payload : List Byte)
  | fetchEvents (tag : Byte) (payload : List Byte)
  | fetchEventsRepeat (tag : Byte) (payload : List Byte)
  | unknownKind (kind : Byte) (tag : Byte) (payload : List Byte)
  /-- The last byte of the frame being gathered. -/
  | frameComplete (last : Byte)
  | interByteGap
  /-- The byte block that the face's Train Link delivers. -/
  | beacon (f : Face) (bytes : List Byte)
  | linkBecomesLost (f : Face)
  /-- One strength per configured cell, from cell 0 upward. -/
  | strengthReading (f : Face) (strengths : List Strength)
  | turn (f : Face)
  /-- The bytes of the answer frame. -/
  | reportAnswer (f : Face) (bytes : List Byte)
  | ack (f : Face) (bytes : List Byte)
  | busy (f : Face) (bytes : List Byte)
  | answerWindowClosed (f : Face)
  /-- `pulled`: the wired bit read from the window is "some". -/
  | attentionQueryAnswer (f : Face) (pulled : Bool)
  /-- The new raw level: for ENABLE asserted, for LOOP contact made, for FIRE high. -/
  | lineInputChange (line : Line) (level : Bool)
  | lineFilterExpiry (line : Line)
  | openTravelDeadline (f : Face)
  | dwellExpiry (f : Face)
  | minimumReached (f : Face)
  | capDeadline (f : Face)
  | endOfWarning (f : Face)
  | doorwayDeadline (f : Face)
  | reopenPauseEnd (f : Face) (bay : Nat)
  | closeTravelLimit (f : Face) (bay : Nat)
  | lockProofDeadline (f : Face) (bay : Nat)
  | stationLinkByte (byte : Byte)
  deriving DecidableEq, Repr

end Sys2Proof
end

