-- ==== Sys2Proof/Decode.lean ====
section
/-!
DEFINITION. The commands that a word spells by the bits of spec/opcode_table.json: none, since no row of
the table has bits. A request reaches the part as a frame (section 11.2), byte by byte.
-/

namespace Sys2Proof

/-- The command that `nbits` bits of a word spell. The table gives bits to no row. -/
def decodeTableWord (_nbits _w : Nat) : Option Instr := none

end Sys2Proof
end

