-- ==== Sys2Proof/Config.lean ====
section
/-!
DEFINITION. What the spec fixes by number for every part, and what it leaves without a value.
The fixed durations are milliseconds. The two opaque constants have no body: nothing can be proved
of the value they give.
-/

namespace Sys2Proof.Config

/-- The part's design level number, which IDENTIFY returns (R166) and no rule states.
DESIGN CHOICE (notes/assumptions/3.md): a free value. -/
opaque designLevel : Byte

/-- A byte that a reply carries and no rule states: the fourth of the six bytes of a LOAD_ERROR reply
to LOAD END (section 11.2). DESIGN CHOICE (notes/assumptions/4.md): a free value, a fresh one each time. -/
opaque freeByte : Nat → Byte

/-- Loss of link: 500 ms without a good beacon (R21). -/
abbrev linkTimeout : Nat := 500

/-- Strength readings come every 40 ms (R24). -/
abbrev readingPace : Nat := 40

/-- Weak for 2,000 ms, for vacancy (R25). -/
abbrev vacancyTime : Nat := 2000

/-- The line filters' 20 ms (R151). -/
abbrev filterTime : Nat := 20

/-- A frame's bytes may be at most 20 ms apart (R158). -/
abbrev byteGap : Nat := 20

/-- The Bay Bus answer window, 3 ms (R91). -/
abbrev answerWindow : Nat := 3

/-- The largest payload of a Station Link frame (R158). -/
abbrev maxPayload : Nat := 240

/-- The Event Queue's capacity (R168). -/
abbrev queueSize : Nat := 64

/-- The receive buffer's capacity (R159). -/
abbrev bufferSize : Nat := 2

/-- The records one FETCH EVENTS carries (R169). -/
abbrev fetchSize : Nat := 8

/-- The discard count and the passage counts hold here (R118, R158). -/
abbrev countLimit : Nat := 65535

/-- The largest face position (overview 6.1). -/
abbrev maxPosition : Nat := 250000

/-- Samples in a measurement (R50). -/
abbrev maxSamples : Nat := 16

/-- Entries in a full run (R48). -/
abbrev runSize : Nat := 4

/-- The greatest spread of a run, in millimetres (R48). -/
abbrev maxSpread : Nat := 60

/-- Misses that make a bay SILENT (R102). -/
abbrev silentMisses : Nat := 3

/-- The miss count holds here (R101). -/
abbrev missLimit : Nat := 255

/-- Polls of every bay that a SURVEY waits for (R89). -/
abbrev surveyRounds : Nat := 3

/-- Polls between two mask-5 attention queries (R104). -/
abbrev pollsPerQuery : Nat := 8

end Sys2Proof.Config
end

