-- ==== Sys2Proof/Machine/State.lean ====
section
/-!
DEFINITION. The state of the MH640 as plain data, block by block as the overview's table of blocks
(section 3.1) divides it, and the state after power-on.
-/

namespace Sys2Proof.Machine

/-- One value of a kind for each face. -/
structure PerFace (α : Type) where
  a : α
  b : α
  deriving DecidableEq, Repr

/-- The twelve face states (overview 4); `opened` is OPEN. -/
inductive FaceState where
  | outOfService
  | survey
  | empty
  | arriving
  | measuring
  | berthed
  | opening
  | opened
  | closing
  | closedLocked
  | held
  | released
  deriving DecidableEq, Repr

/-- The substates of OPEN (R62). -/
inductive OpenSub where
  | dwell
  | connectionWait
  | expired
  deriving DecidableEq, Repr

/-- The verdicts of a measurement (R40), in the order R65 numbers them. -/
inductive Verdict where
  | onMark
  | short
  | over
  | indeterminate
  | noConsist
  deriving DecidableEq, Repr

/-- The classes FULL, PARTIAL and NONE, in order of merit (R53). -/
inductive Cls where
  | full
  | part
  | unmet
  deriving DecidableEq, Repr

/-- The seven fault flags, in the order R139 numbers them. -/
inductive Flag where
  | align
  | obstruct
  | lock
  | gap
  | silent
  | link
  | release
  deriving DecidableEq, Repr

/-- The five release causes, in the order R129 numbers them. -/
inductive Cause where
  | loop
  | handle
  | train
  | fire
  | station
  deriving DecidableEq, Repr

/-- Where a berth consist came from (R32). -/
inductive Source where
  | train
  | expected
  deriving DecidableEq, Repr

/-- The load state (R1). -/
inductive LoadState where
  | idle
  | loading
  deriving DecidableEq, Repr

/-- A set of fault flags as the frames carry it: bit n − 1 for flag n (section 11.2). -/
abbrev FlagSet := BitVec 7

/-! ### The Configuration Store -/

/-- A BAY record (R6). -/
structure BayGeometry where
  num      : Nat
  left     : Nat
  right    : Nat
  enrolled : Bool
  gap      : Bool
  beams    : Bool
  deriving DecidableEq, Repr

/-- A CELL record (R7). -/
structure Cell where
  index  : Nat
  centre : Nat
  deriving DecidableEq, Repr

/-- One door entry of a consist: door offset d and clear width w (R8). -/
structure Door where
  offset : Nat
  width  : Nat
  deriving DecidableEq, Repr

/-- A consist of the catalogue (R8, R9); door k stands at place k − 1 of `doors`. -/
structure Consist where
  code      : Nat
  length    : Nat
  antenna   : Nat
  doorCount : Nat
  doors     : List Door
  deriving DecidableEq, Repr

/-- A STOP record (R10). -/
structure StopMark where
  code      : Nat
  mark      : Nat
  tolerance : Nat
  deriving DecidableEq, Repr

/-- The face parameters with their defaults (R11). Seconds stay seconds; off/on and the other two-way
parameters are the numbers 0 and 1 of R11's first table. -/
structure Params where
  strengthFloor   : Nat := 240
  minimumOverlap  : Nat := 700
  partAllowance   : Nat := 0
  trainConsent    : Nat := 1
  autoClose       : Nat := 1
  dwellBase       : Nat := 25
  dwellMode       : Nat := 0
  extensionStep   : Nat := 5
  maxExtensions   : Nat := 4
  flowWindow      : Nat := 2
  warningPeriod   : Nat := 3
  closeRetries    : Nat := 3
  reopenPause     : Nat := 2
  doorwayHold     : Nat := 4
  openTravel      : Nat := 6
  lockProof       : Nat := 1500
  gapQualify      : Nat := 300
  pairingWindow   : Nat := 600
  loopSense       : Nat := 0
  defaultMask     : FlagSet := 0#7
  deriving DecidableEq, Repr

/-- The collections of one face (R1), each in ascending key. -/
structure FaceConfig where
  bays   : List BayGeometry := []
  cells  : List Cell := []
  stops  : List StopMark := []
  params : Params := {}
  deriving DecidableEq, Repr

/-- The Configuration Store (R1). `fireSense` is 0 active-low, 1 active-high; `broughtIn` says of each
face whether the last successful LOAD END brought it into service (R166). -/
structure Store where
  load      : LoadState := .idle
  valid     : Bool := false
  consists  : List Consist := []
  cfg       : PerFace FaceConfig := ⟨{}, {}⟩
  fireSense : Nat := 0
  broughtIn : PerFace Bool := ⟨false, false⟩
  deriving DecidableEq, Repr

/-! ### The Face Sequencer -/

/-- The working dwell values (R62): base and step in seconds, mode 0 FIXED or 1 FLOW. -/
structure DwellValues where
  base : Nat
  mode : Nat
  step : Nat
  deriving DecidableEq, Repr

/-- A connection hold record (R62, R80): minimum and cap in seconds, accumulated time in milliseconds. -/
structure HoldRecord where
  minimum       : Nat
  cap           : Nat
  accumulated   : Nat
  countingStart : Option Time
  capDeadline   : Option Time
  deriving DecidableEq, Repr

/-- The phases of a closing list entry (R81). -/
inductive Phase where
  | waiting
  | doorway
  | sent
  | pause
  | gapWait
  | locked
  | left
  deriving DecidableEq, Repr

/-- One entry of the closing list (R81). `proving` says whether a lock proof deadline has been set for
the bay since its latest CLOSE order (R85), and `deadline` is then that deadline; `travel` is the end of
the open travel limit of that order, while the leaf has not been reported CLOSED since (R83). -/
structure ClosingEntry where
  bay      : Nat
  phase    : Phase
  retries  : Nat
  deadline : Option Time
  repeated : Bool
  proving  : Bool
  travel   : Option Time
  deriving DecidableEq, Repr

/-- The closing kinds (R62). -/
inductive ClosingKind where
  | normal
  | motion
  | heldClose
  | recovery
  deriving DecidableEq, Repr

/-- The Face Record (R62). Its survey polls stand in the bay entries, one count a bay. `closingKind` is
present while a closing procedure runs. Sets and lists of bays ascend. -/
structure FaceRecord where
  state         : FaceState := .outOfService
  substate      : Option OpenSub := none
  slot          : Option Byte := none
  lastAccepted  : Option Byte := none
  acceptedIds   : List Nat := []
  grant         : List Nat := []
  dwell         : Option DwellValues := none
  override      : Bool := false
  dwellDeadline : Option Time := none
  extensions    : Nat := 0
  openSince     : Option Time := none
  openTravel    : Option Time := none
  failed        : List Nat := []
  hold          : Option HoldRecord := none
  closing       : List ClosingEntry := []
  closingKind   : Option ClosingKind := none
  warning       : Bool := false
  endOfWarning  : Option Time := none
  doorway       : Option Time := none
  deriving DecidableEq, Repr

/-! ### The Berth Monitor -/

/-- The fields of a good beacon (R20). -/
structure Beacon where
  code        : Byte
  train       : BitVec 16
  moving      : Bool
  doorsClosed : Bool
  ready       : Bool
  emergency   : Bool
  deriving DecidableEq, Repr

/-- A consist expectation (R19). -/
structure Expectation where
  code  : Nat
  train : Option (BitVec 16)
  deriving DecidableEq, Repr

/-- The Berth Monitor of a face (R19). `present` is the link state PRESENT; `lastReading` keeps the
40 ms pace of the readings (R24); `answer` is the platform answer on its way to the train (R29). -/
structure Berth where
  present      : Bool := false
  lastGood     : Option Time := none
  latest       : Option Beacon := none
  lossReported : Bool := false
  reading      : List Strength := []
  lastReading  : Option Time := none
  weakSince    : Option Time := none
  vacant       : Bool := false
  doorList     : List Nat := []
  consist      : Option (Nat × Source) := none
  staged       : Option Expectation := none
  active       : Option Expectation := none
  answer       : Option (List Byte) := none
  deriving DecidableEq, Repr

/-! ### The Alignment Unit -/

/-- The status of a Measurement Record (R41). -/
inductive MeasStatus where
  | empty
  | waiting
  | sampling
  | current
  | abandoned
  | stale
  deriving DecidableEq, Repr

/-- What abandoned a measurement (R59). -/
inductive AbandonCause where
  | moving
  | release
  | vacant
  | held
  deriving DecidableEq, Repr

/-- An entry of the bay class list (R54). -/
structure BayClass where
  bay  : Nat
  cls  : Cls
  door : Option Nat
  deriving DecidableEq, Repr

/-- An entry of the door class list (R54); door k stands at place k − 1. -/
structure DoorClass where
  cls : Cls
  bay : Option Nat
  deriving DecidableEq, Repr

/-- The Measurement Record of a face (R40). -/
structure Measurement where
  status      : MeasStatus := .empty
  consist     : Option Nat := none
  source      : Option Source := none
  antenna     : Option Nat := none
  mark        : Option Nat := none
  tolerance   : Option Nat := none
  requestTime : Option Time := none
  startTime   : Option Time := none
  samples     : Nat := 0
  weak        : Nat := 0
  ghost       : Nat := 0
  range       : Nat := 0
  run         : List Nat := []
  front       : Option Nat := none
  error       : Option Int := none
  verdict     : Option Verdict := none
  bayClasses  : Option (List BayClass) := none
  doorClasses : Option (List DoorClass) := none
  grant       : List Nat := []
  doorList    : List Nat := []
  evacuation  : List Nat := []
  evacDoors   : List Nat := []
  completion  : Option Time := none
  abandon     : Option AbandonCause := none
  deriving DecidableEq, Repr

/-! ### The Bay Bus Master, the Bay Table and the Sensing Unit -/

/-- An order that the master carries to one bay (R97). -/
inductive BayOrder where
  | openLeaf
  | closeLeaf
  deriving DecidableEq, Repr

/-- The leaf values of a report (R94). -/
inductive Leaf where
  | closed
  | opening
  | opened
  | closing
  | stopped
  deriving DecidableEq, Repr

/-- The two passage beams of a doorway (R94). -/
inductive Side where
  | a
  | b
  deriving DecidableEq, Repr

/-- One beam event of a report (R94): `make` is the edge MAKE, `age` is in milliseconds. -/
structure BeamEvent where
  beam : Side
  make : Bool
  age  : Nat
  deriving DecidableEq, Repr

/-- The fields of a REPORT answer (R94). -/
structure Report where
  leaf      : Leaf
  lock      : Bool
  obstacle  : Bool
  pulled    : Bool
  gapActive : Bool
  count     : Nat
  events    : List BeamEvent
  attention : Bool
  deriving DecidableEq, Repr

/-- A gap qualifier (R109); `active` is the qualified state ACTIVE. -/
structure GapQualifier where
  active    : Bool := false
  start     : Option Time := none
  lastCount : Option Nat := none
  since     : Option Time := none
  deriving DecidableEq, Repr

/-- The states of a passage decoder (R109). -/
inductive DecoderState where
  | idle
  | aFirst
  | bFirst
  | bothIn
  deriving DecidableEq, Repr

/-- A passage decoder with its beam levels and counts (R109); a level is yes when BROKEN. -/
structure Decoder where
  brokenA    : Bool := false
  brokenB    : Bool := false
  state      : DecoderState := .idle
  firstBreak : Option Time := none
  entrySide  : Option Side := none
  lastEdge   : Option Time := none
  boarded    : Nat := 0
  alighted   : Nat := 0
  discarded  : Nat := 0
  deriving DecidableEq, Repr

/-- One bay's entry of the Bay Table, with the items that the Bay Bus Master (R95), the Sensing Unit
(R109) and the Face Sequencer's survey (R62, R89) keep for the bay. A qualifier or a decoder is absent
where the bay has no such fitting. -/
structure BayEntry where
  num         : Nat
  cls         : Option Cls := none
  granted     : Bool := false
  isolated    : Bool := false
  silent      : Bool := false
  report      : Option (Report × Time) := none
  inFlight    : Option BayOrder := none
  waiting     : Option BayOrder := none
  busyHold    : Bool := false
  miss        : Nat := 0
  gap         : Option GapQualifier := none
  beams       : Option Decoder := none
  surveyPolls : Nat := 0
  deriving DecidableEq, Repr

/-- The entries of the dispatch list (R96). -/
inductive DispatchEntry where
  | unicast (bay : Nat) (o : BayOrder)
  | groupClose
  | groupWarn (on : Bool)
  | followUp (bay : Nat)
  deriving DecidableEq, Repr

/-- The search state (R95, R106): `lower` and `upper` name the half that the next attention query asks,
with the step's base and mask; `hit` has its address. -/
inductive Search where
  | idle
  | lower (base mask : Nat)
  | upper (base mask : Nat)
  | hit (addr : Nat)
  deriving DecidableEq, Repr

/-- What an outstanding transaction is (R91, R96, R100, R101). `inSurvey` marks a poll made after the
face's entry to SURVEY (R89). -/
inductive TransKind where
  | order (bay : Nat) (o : BayOrder)
  | followUp (bay : Nat)
  | poll (bay : Nat) (inSurvey : Bool)
  | hit (addr : Nat)
  | query (mask base : Nat)
  | groupClose
  | groupWarn (on : Bool)
  deriving DecidableEq, Repr

/-- The transaction whose answer window stands open (R91). -/
structure Trans where
  kind      : TransKind
  repeated  : Bool
  windowEnd : Time
  deriving DecidableEq, Repr

/-- The Bay Bus Master of a face (R95). `queryNext` says that the next turn is a mask-5 query at once
(R107); the dispatch list is `gap` and behind it `dispatch`: `gap` holds the entries that stood on the
list when the previous turn ended and are not yet sent, `dispatch` those placed since (R96); `turning`
says that a turn has begun and its own transaction is still to come; `out` is what the master has sent,
frame by frame, oldest first. -/
structure Bus where
  cursor      : Option Nat := none
  polls       : Nat := 0
  search      : Search := .idle
  queryNext   : Bool := false
  dispatch    : List DispatchEntry := []
  gap         : List DispatchEntry := []
  turning     : Bool := false
  outstanding : Option Trans := none
  out         : List (List Byte) := []
  deriving DecidableEq, Repr

/-- The Sensing Unit's record of a face (R109). -/
structure Sensing where
  lastPassage : Option Time := none
  clearedAt   : Option Time := none
  deriving DecidableEq, Repr

/-! ### The Release Monitor, the Fault Unit and the lines -/

/-- The release phases (R123). -/
inductive ReleasePhase where
  | none
  | holding
  | recovering
  deriving DecidableEq, Repr

/-- The Release Record (R123). HANDLE is present while `pulled` is not empty (R125), so it has no mark
of its own. -/
structure Release where
  loop       : Bool := false
  train      : Bool := false
  fire       : Bool := false
  station    : Bool := false
  pulled     : List Nat := []
  phase      : ReleasePhase := .none
  first      : Option (Cause × Option Nat) := none
  entryTime  : Option Time := none
  evacIssued : Bool := false
  opened     : List Nat := []
  resetTime  : Option Time := none
  deriving DecidableEq, Repr

/-- A set flag's first bay and set time (R138). -/
structure FlagInfo where
  bay  : Option Nat
  time : Time
  deriving DecidableEq, Repr

/-- The seven fault flags, each absent while it is clear (R138). -/
structure FlagTable where
  align    : Option FlagInfo := none
  obstruct : Option FlagInfo := none
  lock     : Option FlagInfo := none
  gap      : Option FlagInfo := none
  silent   : Option FlagInfo := none
  link     : Option FlagInfo := none
  release  : Option FlagInfo := none
  deriving DecidableEq, Repr

/-- The Fault Record (R145); `byMask` is the cause MASK_CHANGE. -/
structure FaultRecord where
  flag         : Flag
  bay          : Option Nat
  state        : FaceState
  substate     : Option OpenSub
  lastAccepted : Option Byte
  time         : Time
  byMask       : Bool
  deriving DecidableEq, Repr

/-- The Fault Unit of a face (R138). -/
structure FaultUnit where
  flags  : FlagTable := {}
  mask   : FlagSet := 0#7
  record : Option FaultRecord := none
  deriving DecidableEq, Repr

/-- A line filter with the raw level of its input (R151). -/
structure LineFilter where
  raw   : Bool
  level : Bool
  since : Option Time
  deriving DecidableEq, Repr

/-- Everything the part holds for one face. -/
structure FaceBlock where
  seq     : FaceRecord := {}
  berth   : Berth := {}
  meas    : Measurement := {}
  bays    : List BayEntry := []
  bus     : Bus := {}
  sensing : Sensing := {}
  release : Release := {}
  fault   : FaultUnit := {}
  permit  : Bool := false
  enable  : LineFilter
  loop    : LineFilter
  deriving DecidableEq, Repr

/-! ### The Link Interface and the Event Queue -/

/-- A good Station Link frame (R158). -/
structure Frame where
  kind    : Byte
  tag     : Byte
  payload : List Byte
  deriving DecidableEq, Repr

/-- The receiver of the Link Interface (R158): hunting, or in a frame with the bytes gathered after the
sync byte and the time of the latest byte. -/
inductive Receiver where
  | hunting
  | inFrame (bytes : List Byte) (last : Time)
  deriving DecidableEq, Repr

/-- The event kinds, in the order R172 numbers them. -/
inductive EventKind where
  | arrived
  | consistMismatch
  | berthed
  | trainMoved
  | departed
  | orderAccepted
  | orderLapsed
  | opened
  | dwellExtended
  | connectionWait
  | connectionMissed
  | closing
  | bayObstructed
  | closedLocked
  | linkLost
  | linkRestored
  | trainDoors
  | baySilent
  | bayAnswering
  | gapActive
  | gapClear
  | faultSet
  | faultCleared
  | releaseEntered
  | releaseCause
  | releaseReset
  | permitChanged
  | enableLost
  | surveyDone
  | loadDone
  deriving DecidableEq, Repr

/-- An event record (R168). -/
structure EventRecord where
  kind    : EventKind
  face    : Option Face
  bay     : Option Nat
  time    : Time
  details : List Nat
  deriving DecidableEq, Repr

/-! ### The state -/

/-- The state of the part, and the queue of the commands that wait. `stationOut` is what the part has
sent on the Station Link, frame by frame, oldest first; `freeCount` is the model's own counter behind
`Config.freeByte`. -/
structure State where
  time       : Time
  store      : Store
  faces      : PerFace FaceBlock
  fire       : LineFilter
  serving    : Option Face
  waitingFor : Option Face
  receiver   : Receiver
  rx         : List Frame
  dropped    : Bool
  overrun    : Bool
  discards   : Nat
  events     : List EventRecord
  batch      : List EventRecord
  stationOut : List (List Byte)
  freeCount  : Nat
  pending    : List Instr
  deriving DecidableEq, Repr

/-- The reasons a step can stop with a fault: none. Every command of the table has an effect in every
state, and the spec describes no fault that stops the part. -/
inductive Fault where
  deriving DecidableEq, Repr

/-- The reasons a command can be refused by the model. -/
inductive Refusal where
  /-- Raised by `exec` for a command whose meaning is not modelled yet. Safe: the step has no outcome.
  No arm raises it now. -/
  | notModelled (mnemonic : String)
  deriving DecidableEq, Repr

/-- A filter at power-on: the filtered level is the raw level and there is no candidate (R151). -/
def LineFilter.settled (raw : Bool) : LineFilter := ⟨raw, raw, none⟩

/-- A face at power-on with the raw levels of its ENABLE and LOOP inputs. -/
def FaceBlock.atPowerOn (enableRaw loopRaw : Bool) : FaceBlock :=
  { enable := .settled enableRaw, loop := .settled loopRaw }

/-- The part at power-on (R1, R19, R37, R62, R95, R109, R123, R138, R151, R157 to R160, R165, R168)
with the raw levels of its inputs. -/
def State.atPowerOn (enable loop : PerFace Bool) (fire : Bool) : State where
  time := 0#32
  store := {}
  faces := ⟨.atPowerOn enable.a loop.a, .atPowerOn enable.b loop.b⟩
  fire := .settled fire
  serving := none
  waitingFor := none
  receiver := .hunting
  rx := []
  dropped := false
  overrun := false
  discards := 0
  events := []
  batch := []
  stationOut := []
  freeCount := 0
  pending := []

/-- The state after power-on, with the input lines in the conditions that the default senses call
normal: ENABLE withdrawn, the loop contacts made, FIRE high
(DESIGN CHOICE, notes/assumptions/5.md: the spec gives the lines no level). -/
def State.reset : State := .atPowerOn ⟨false, false⟩ ⟨true, true⟩ true

end Sys2Proof.Machine
end

