-- ==== Sys2Proof/Machine/Bytes.lean ====
section
/-!
DEFINITION. Bytes and numbers: the byte order of the frames, the two checks of R171, the numbers that
section 11.2 and the rules give to the named values, and the ascending sets.
-/

namespace Sys2Proof.Machine

/-! ### Numbers, most significant byte first (section 11) -/

def be1 (n : Nat) : List Byte := [BitVec.ofNat 8 n]

def be2 (n : Nat) : List Byte := [BitVec.ofNat 8 (n / 256), BitVec.ofNat 8 n]

def be4 (n : Nat) : List Byte :=
  [BitVec.ofNat 8 (n / 16777216), BitVec.ofNat 8 (n / 65536), BitVec.ofNat 8 (n / 256), BitVec.ofNat 8 n]

/-- The number that bytes spell, most significant first. -/
def ofBytes (bs : List Byte) : Nat := bs.foldl (fun n b => n * 256 + b.toNat) 0

/-- The number in `len` bytes from offset `off` of a payload. -/
def numAt (p : List Byte) (off len : Nat) : Nat := ofBytes ((p.drop off).take len)

/-- The byte at an offset, as a number; 0 beyond the end. -/
def byteAt (p : List Byte) (off : Nat) : Nat := (p.getD off 0#8).toNat

/-! ### Checks (R171) -/

/-- One shift of the 16-bit check's register. -/
def crcShift (r : BitVec 16) : BitVec 16 :=
  if r.msb then (r <<< 1) ^^^ 0x1021#16 else r <<< 1

/-- One byte taken into the 16-bit check. -/
def crcByte (r : BitVec 16) (b : Byte) : BitVec 16 :=
  let r := r ^^^ (b.setWidth 16 <<< 8)
  crcShift (crcShift (crcShift (crcShift (crcShift (crcShift (crcShift (crcShift r)))))))

/-- The 16-bit check over bytes in the order sent. -/
def crc16 (bs : List Byte) : BitVec 16 := bs.foldl crcByte 0xFFFF#16

/-- The modulo-256 sum of a frame's bytes. -/
def sum8 (bs : List Byte) : Byte := bs.foldl (· + ·) 0#8

/-- A Bay Bus frame: its bytes with the 8-bit check that brings their sum to 0. -/
def withCheck8 (bs : List Byte) : List Byte := bs ++ [0#8 - sum8 bs]

/-- The bytes of a frame with its 16-bit check, upper byte first. -/
def withCheck16 (bs : List Byte) : List Byte := bs ++ be2 (crc16 bs).toNat

/-! ### Numbers of named values -/

/-- Face states count from 1 in the order of the overview's table (section 11.2, R86). -/
def FaceState.number : FaceState → Nat
  | .outOfService => 1
  | .survey => 2
  | .empty => 3
  | .arriving => 4
  | .measuring => 5
  | .berthed => 6
  | .opening => 7
  | .opened => 8
  | .closing => 9
  | .closedLocked => 10
  | .held => 11
  | .released => 12

def OpenSub.number : OpenSub → Nat
  | .dwell => 0
  | .connectionWait => 1
  | .expired => 2

/-- R65. -/
def Verdict.number : Verdict → Nat
  | .onMark => 0
  | .short => 1
  | .over => 2
  | .indeterminate => 3
  | .noConsist => 4

def Cls.number : Cls → Nat
  | .full => 0
  | .part => 1
  | .unmet => 2

/-- R139. -/
def Flag.number : Flag → Nat
  | .align => 1
  | .obstruct => 2
  | .lock => 3
  | .gap => 4
  | .silent => 5
  | .link => 6
  | .release => 7

/-- R129. -/
def Cause.number : Cause → Nat
  | .loop => 1
  | .handle => 2
  | .train => 3
  | .fire => 4
  | .station => 5

/-- R33: 0 none, 1 TRAIN, 2 EXPECTED. -/
def sourceNumber : Option Source → Nat
  | none => 0
  | some .train => 1
  | some .expected => 2

def MeasStatus.number : MeasStatus → Nat
  | .empty => 0
  | .waiting => 1
  | .sampling => 2
  | .current => 3
  | .abandoned => 4
  | .stale => 5

def AbandonCause.number : AbandonCause → Nat
  | .moving => 0
  | .release => 1
  | .vacant => 2
  | .held => 3

def Phase.number : Phase → Nat
  | .waiting => 0
  | .doorway => 1
  | .sent => 2
  | .pause => 3
  | .gapWait => 4
  | .locked => 5
  | .left => 6

def ClosingKind.number : ClosingKind → Nat
  | .normal => 0
  | .motion => 1
  | .heldClose => 2
  | .recovery => 3

def ReleasePhase.number : ReleasePhase → Nat
  | .none => 0
  | .holding => 1
  | .recovering => 2

/-- Section 11.3. -/
def Leaf.number : Leaf → Nat
  | .closed => 0
  | .opening => 1
  | .opened => 2
  | .closing => 3
  | .stopped => 4

def DecoderState.number : DecoderState → Nat
  | .idle => 0
  | .aFirst => 1
  | .bFirst => 2
  | .bothIn => 3

def Side.number : Side → Nat
  | .a => 0
  | .b => 1

/-- The order codes of an ORDER frame (section 11.3): OPEN 1, CLOSE 2. -/
def BayOrder.number : BayOrder → Nat
  | .openLeaf => 1
  | .closeLeaf => 2

/-- A face byte (section 11.2): 0 A, 1 B. -/
def faceNumber : Face → Nat
  | .a => 0
  | .b => 1

/-- The face that a face byte names, if any. -/
def faceOfByte (b : Byte) : Option Face :=
  if b = 0#8 then some .a else if b = 1#8 then some .b else none

/-- R172: ARRIVED 1 to LOAD_DONE 30. -/
def EventKind.number : EventKind → Nat
  | .arrived => 1
  | .consistMismatch => 2
  | .berthed => 3
  | .trainMoved => 4
  | .departed => 5
  | .orderAccepted => 6
  | .orderLapsed => 7
  | .opened => 8
  | .dwellExtended => 9
  | .connectionWait => 10
  | .connectionMissed => 11
  | .closing => 12
  | .bayObstructed => 13
  | .closedLocked => 14
  | .linkLost => 15
  | .linkRestored => 16
  | .trainDoors => 17
  | .baySilent => 18
  | .bayAnswering => 19
  | .gapActive => 20
  | .gapClear => 21
  | .faultSet => 22
  | .faultCleared => 23
  | .releaseEntered => 24
  | .releaseCause => 25
  | .releaseReset => 26
  | .permitChanged => 27
  | .enableLost => 28
  | .surveyDone => 29
  | .loadDone => 30

/-! ### Ascending sets -/

/-- A number put into an ascending list that holds no number twice. -/
def insertAsc (n : Nat) : List Nat → List Nat
  | [] => [n]
  | m :: ms => if n < m then n :: m :: ms else if n = m then m :: ms else m :: insertAsc n ms

/-- The bits of a set of numbers, bit n for n. -/
def bitsOf (ns : List Nat) : Nat := ns.foldl (fun acc n => acc ||| (1 <<< n)) 0

end Sys2Proof.Machine
end

