-- ==== Sys2Proof/Machine/Ops.lean ====
section
/-!
DEFINITION. The named operations over State that every family of commands shares: reaching a face's
block, time and its passing (R165), the Event Queue (R168), the bay entries, the senses of the lines
and the small queries that many rules make. Each operation takes the state last.
-/

namespace Sys2Proof.Machine

/-! ### Faces -/

def otherFace : Face → Face
  | .a => .b
  | .b => .a

def PerFace.get {α : Type} (p : PerFace α) : Face → α
  | .a => p.a
  | .b => p.b

def PerFace.set {α : Type} (p : PerFace α) (f : Face) (x : α) : PerFace α :=
  match f with
  | .a => { p with a := x }
  | .b => { p with b := x }

/-- A face's block. -/
def State.face (s : State) (f : Face) : FaceBlock := s.faces.get f

/-- A change of one face's block. -/
def modFace (f : Face) (g : FaceBlock → FaceBlock) (s : State) : State :=
  { s with faces := s.faces.set f (g (s.face f)) }

def modSeq (f : Face) (g : FaceRecord → FaceRecord) (s : State) : State :=
  modFace f (fun b => { b with seq := g b.seq }) s

def modBerth (f : Face) (g : Berth → Berth) (s : State) : State :=
  modFace f (fun b => { b with berth := g b.berth }) s

def modMeas (f : Face) (g : Measurement → Measurement) (s : State) : State :=
  modFace f (fun b => { b with meas := g b.meas }) s

def modBus (f : Face) (g : Bus → Bus) (s : State) : State :=
  modFace f (fun b => { b with bus := g b.bus }) s

def modSensing (f : Face) (g : Sensing → Sensing) (s : State) : State :=
  modFace f (fun b => { b with sensing := g b.sensing }) s

def modRelease (f : Face) (g : Release → Release) (s : State) : State :=
  modFace f (fun b => { b with release := g b.release }) s

def modFault (f : Face) (g : FaultUnit → FaultUnit) (s : State) : State :=
  modFace f (fun b => { b with fault := g b.fault }) s

def modStore (g : Store → Store) (s : State) : State := { s with store := g s.store }

/-- A face's configuration. -/
def State.cfg (s : State) (f : Face) : FaceConfig := s.store.cfg.get f

/-- A face's parameters, read where they are used (R11). -/
def State.params (s : State) (f : Face) : Params := (s.cfg f).params

/-- The face state. -/
def State.stateOf (s : State) (f : Face) : FaceState := (s.face f).seq.state

/-! ### Bay entries -/

/-- A change of one bay's entry; nothing where the bay is not configured. -/
def modBay (f : Face) (n : Nat) (g : BayEntry → BayEntry) (s : State) : State :=
  modFace f (fun b => { b with bays := b.bays.map fun e => if e.num = n then g e else e }) s

/-- A change of every bay's entry. -/
def modBays (f : Face) (g : BayEntry → BayEntry) (s : State) : State :=
  modFace f (fun b => { b with bays := b.bays.map g }) s

/-- A bay's entry, where the bay is configured. -/
def State.bay (s : State) (f : Face) (n : Nat) : Option BayEntry :=
  (s.face f).bays.find? (fun e => e.num = n)

/-- A bay counts as locked (R63). -/
def BayEntry.locked (e : BayEntry) : Bool :=
  !e.silent && e.report.any (fun r => r.1.lock)

/-- A bay's latest report shows leaf OPEN (R73). -/
def BayEntry.leafOpen (e : BayEntry) : Bool := e.report.any (fun r => r.1.leaf == .opened)

/-- A bay's qualified gap is ACTIVE; CLEAR where no detector is fitted (R6, R113). -/
def BayEntry.gapIsActive (e : BayEntry) : Bool := e.gap.any (fun q => q.active)

/-- A bay is doorway-held (R120). -/
def BayEntry.doorwayHeld (e : BayEntry) : Bool := e.beams.any (fun d => d.brokenA || d.brokenB)

/-! ### Time (R165) -/

/-- A duration in milliseconds on the counter. -/
def ms (n : Nat) : Time := BitVec.ofNat 32 n

/-- A duration given in whole seconds, counted in milliseconds (R11). -/
def sec (n : Nat) : Time := ms (n * 1000)

/-- The milliseconds from `t` to `now`, modulo 2^32. -/
def elapsed (now t : Time) : Nat := (now - t).toNat

/-- `now` stands at `d` or past it: the half of the counter's circle behind `now` is the past. -/
def due (now d : Time) : Bool := decide (elapsed now d < 2147483648)

/-- `x` is later than `y` in the sense of R115. -/
def laterThan (x y : Time) : Bool := decide (0 < elapsed x y ∧ elapsed x y < 2147483648)

/-- The connection hold counts `n` more milliseconds where the held face and the feeding face both
stand in OPEN (R80). -/
def countHold (n : Nat) (f : Face) (s : State) : State :=
  if s.stateOf f = .opened ∧ s.stateOf (otherFace f) = .opened then
    modSeq f (fun r => { r with hold := r.hold.map fun h => { h with accumulated := h.accumulated + n } }) s
  else s

/-- `n` milliseconds pass: the counter rises (R165) and the connection holds count (R80). -/
def elapse (n : Nat) (s : State) : State :=
  let s := countHold n .b (countHold n .a s)
  { s with time := s.time + ms n }

/-- A deadline passes: the time up to it passes first, where the counter has not reached it.
DESIGN CHOICE (notes/assumptions/2.md). -/
def advanceTo (d : Time) (s : State) : State :=
  if due s.time d then s else elapse (elapsed d s.time) s

/-- One millisecond passes: what the part does while no command waits.
DESIGN CHOICE (notes/assumptions/1.md). -/
def tick (s : State) : State := elapse 1 s

/-! ### The Event Queue (R168) -/

/-- An event is posted: it joins a queue of fewer than 64 records, or is discarded with OVERRUN set. -/
def post (k : EventKind) (f : Option Face) (bay : Option Nat) (details : List Nat) (s : State) : State :=
  if s.events.length < Config.queueSize then
    { s with events := s.events ++ [⟨k, f, bay, s.time, details⟩] }
  else { s with overrun := true }

/-! ### Lines under their senses -/

/-- The loop reads closed (R124): with sense NC the contact made, with sense NO broken. While a load is open the
sense is the one that the load has so far (DESIGN CHOICE, notes/assumptions/45.md). -/
def State.loopClosed (s : State) (f : Face) : Bool :=
  if (s.params f).loopSense = 0 then (s.face f).loop.level else !(s.face f).loop.level

/-- FIRE is active (R126): active-low at its low level, active-high at its high level, by the sense that stands in
the Configuration Store, while a load is open too (DESIGN CHOICE, notes/assumptions/45.md). -/
def State.fireActive (s : State) : Bool :=
  if s.store.fireSense = 0 then !s.fire.level else s.fire.level

/-- RELEASE ACTIVE (R155). -/
def State.releaseActive (s : State) (f : Face) : Bool := s.stateOf f == .released

/-! ### Values offered (R23) -/

/-- READY TO OPEN as it is offered: absent while the link is LOST. -/
def Berth.readyOffered (b : Berth) : Option Bool :=
  if b.present then b.latest.map (·.ready) else none

/-- EMERGENCY RELEASE as it is offered: absent while the link is LOST. -/
def Berth.emergencyOffered (b : Berth) : Option Bool :=
  if b.present then b.latest.map (·.emergency) else none

/-! ### What other blocks read of a Measurement Record (R41) -/

/-- The front position F of a CURRENT record. -/
def Measurement.readFront (m : Measurement) : Option Nat :=
  if m.status = .current then m.front else none

/-- The door enable list of a CURRENT record. -/
def Measurement.readDoorList (m : Measurement) : List Nat :=
  if m.status = .current then m.doorList else []

/-- The evacuation set of a CURRENT record. -/
def Measurement.readEvacuation (m : Measurement) : List Nat :=
  if m.status = .current then m.evacuation else []

/-- The evacuation door list of a CURRENT record. -/
def Measurement.readEvacDoors (m : Measurement) : List Nat :=
  if m.status = .current then m.evacDoors else []

/-- Every bay's class and granted mark are cleared (R38, R41). -/
def clearClasses (f : Face) (s : State) : State :=
  modBays f (fun e => { e with cls := none, granted := false }) s

/-- A CURRENT record becomes STALE (R61); in RELEASED the Release Monitor then empties the door enable
list (R133). -/
def makeStale (f : Face) (s : State) : State :=
  if (s.face f).meas.status = .current then
    let s := clearClasses f (modMeas f (fun m => { m with status := .stale }) s)
    if s.stateOf f = .released then modBerth f (fun b => { b with doorList := [] }) s else s
  else s

/-! ### Changing the face state -/

/-- The states in which the door enable list may stand (R30). -/
def FaceState.mayEnable : FaceState → Bool
  | .opening => true
  | .opened => true
  | .released => true
  | _ => false

/-- The face enters a state. Outside OPEN there is no substate, no dwell deadline and no counting start
(R62, R74, R80); the Berth Monitor empties the door enable list outside the three states of R30. -/
def setState (f : Face) (st : FaceState) (s : State) : State :=
  modFace f (fun b =>
    { b with
      seq :=
        if st = .opened then { b.seq with state := st }
        else
          { b.seq with
            state := st
            substate := none
            dwellDeadline := none
            hold := b.seq.hold.map fun h => { h with countingStart := none } }
      berth := if st.mayEnable then b.berth else { b.berth with doorList := [] } }) s

end Sys2Proof.Machine
end

