-- ==== Sys2Proof/Machine/Alignment.lean ====
section
/-!
DEFINITION. The Alignment Unit's arithmetic: judging a sample (R44 to R47), the run (R48, R49), the
verdict (R51), door edges and classes (R52 to R54) and the sets and lists formed from them (R55 to
R57). When a measurement begins, completes or is abandoned stands in Sequencer.lean.
-/

namespace Sys2Proof.Machine

/-! ### Judging a sample -/

/-- The outcome of judging a sample: invalid for one of three reasons, or valid with its F_s. -/
inductive Judged where
  | weak
  | ghost
  | range
  | valid (front : Nat)
  deriving DecidableEq, Repr

/-- The strength of cell i; 0 where the reading has none. -/
def strengthAt (ss : List Strength) (i : Nat) : Nat := (ss.getD i 0#10).toNat

/-- The strongest of cells 0 to n − 1, the lowest index among equals (R44). -/
def strongest (ss : List Strength) : Nat → Nat
  | 0 => 0
  | n + 1 =>
    let k := strongest ss n
    if strengthAt ss k < strengthAt ss n then n else k

/-- The ghost test (R45): a configured cell other than k − 1, k and k + 1 with 2·s greater than s_k. -/
def isGhost (ss : List Strength) (n k : Nat) : Bool :=
  (List.range n).any fun i =>
    decide (i ≠ k ∧ i + 1 ≠ k ∧ i ≠ k + 1 ∧ strengthAt ss k < 2 * strengthAt ss i)

/-- The neighbour j of R46, absent where the two neighbours are of equal strength. -/
def neighbour (ss : List Strength) (n k : Nat) : Option Nat :=
  if k = 0 then some 1
  else if k + 1 = n then some (k - 1)
  else if strengthAt ss (k - 1) < strengthAt ss (k + 1) then some (k + 1)
  else if strengthAt ss (k + 1) < strengthAt ss (k - 1) then some (k - 1)
  else none

/-- A cell's centre. -/
def centreAt (cells : List Cell) (i : Nat) : Nat := ((cells[i]?).map (·.centre)).getD 0

/-- The offset of R46: the product formed whole, divided, and truncated toward zero. -/
def offsetOf (cells : List Cell) (ss : List Strength) (n k : Nat) : Int :=
  match neighbour ss n k with
  | none => 0
  | some j =>
    Int.tdiv (((centreAt cells j : Int) - centreAt cells k) * strengthAt ss j)
      (strengthAt ss k + strengthAt ss j : Nat)

/-- The four stages of R44 to R47 in turn. -/
def judge (cells : List Cell) (floor antenna : Nat) (ss : List Strength) : Judged :=
  let n := cells.length
  let k := strongest ss n
  if strengthAt ss k < floor then .weak
  else if isGhost ss n k then .ghost
  else
    let front := ((centreAt cells k : Int) + offsetOf cells ss n k).toNat + antenna
    if Config.maxPosition < front then .range else .valid front

/-! ### The run -/

/-- The greatest entry less the least (R48). -/
def spread (run : List Nat) : Nat :=
  match run with
  | [] => 0
  | x :: xs => xs.foldl max x - xs.foldl min x

/-- The run after a sample (R48). -/
def runAfter (run : List Nat) : Judged → List Nat
  | .valid x => if spread (run ++ [x]) ≤ Config.maxSpread then run ++ [x] else [x]
  | _ => []

/-- The verdict of a stopping error (R51). -/
def verdictOf (e : Int) (tolerance : Nat) : Verdict :=
  if e < -(tolerance : Int) then .short
  else if (tolerance : Int) < e then .over
  else .onMark

/-! ### Classes -/

/-- The class of a bay against a door, with the front at `front` (R52, R53). -/
def classAgainst (pMin front : Nat) (g : BayGeometry) (d : Door) : Cls :=
  let f : Int := (front : Int) - d.offset
  let r : Int := f - d.width
  if f < 0 then .unmet
  else if (g.left : Int) ≤ r ∧ f ≤ g.right then .full
  else if (pMin : Int) ≤ min (g.right : Int) f - max (g.left : Int) r then .part
  else .unmet

/-- The better of two classes, each with the number it is reached at: the first where they are equal, so
that over an ascending list the lowest number stands. -/
def better (x y : Cls × Option Nat) : Cls × Option Nat :=
  if y.1.number < x.1.number then y else x

/-- The best class over an ascending numbered list, and where it is reached (R54). -/
def bestOf (xs : List (Cls × Nat)) : Cls × Option Nat :=
  xs.foldl (fun acc x => better acc (x.1, some x.2)) (.unmet, none)

/-- A consist's doors with their numbers from 1. -/
def numbered (doors : List Door) : List (Door × Nat) := doors.zipIdx 1

/-- The bay class list (R54). -/
def bayClassesOf (pMin front : Nat) (bays : List BayGeometry) (doors : List Door) : List BayClass :=
  bays.map fun g =>
    let best := bestOf ((numbered doors).map fun d => (classAgainst pMin front g d.1, d.2))
    ⟨g.num, best.1, best.2⟩

/-- The door class list (R54). -/
def doorClassesOf (pMin front : Nat) (bays : List BayGeometry) (doors : List Door) : List DoorClass :=
  doors.map fun d =>
    let best := bestOf (bays.map fun g => (classAgainst pMin front g d, g.num))
    ⟨best.1, best.2⟩

/-- The doors that are FULL or PARTIAL against at least one bay of a set, ascending (R56, R57, R131). -/
def doorsMetBy (pMin front : Nat) (bays : List BayGeometry) (doors : List Door) (set : List Nat) : List Nat :=
  ((numbered doors).filter fun d =>
    bays.any fun g => set.contains g.num && classAgainst pMin front g d.1 != .unmet).map (·.2)

/-! ### The sets -/

/-- The grant set (R55): under ON_MARK the FULL bays, and with the allowance the PARTIAL ones, that are
not isolated; under any other verdict empty. -/
def grantSet (v : Verdict) (allowance : Bool) (isolated : Nat → Bool) (cs : List BayClass) : List Nat :=
  if v = .onMark then
    (cs.filter fun c => !isolated c.bay && (c.cls == .full || (allowance && c.cls == .part))).map (·.bay)
  else []

/-- The evacuation set (R57). -/
def evacuationSet (isolated : Nat → Bool) (cs : List BayClass) : List Nat :=
  (cs.filter fun c => !isolated c.bay && c.cls != .unmet).map (·.bay)

/-- The results of a measurement that has F (R51 to R57), written into its record. -/
def withFront (cfg : FaceConfig) (doors : List Door) (isolated : Nat → Bool) (front : Nat)
    (m : Measurement) : Measurement :=
  let p := cfg.params.minimumOverlap
  let e : Int := (front : Int) - (m.mark.getD 0 : Nat)
  let v := verdictOf e (m.tolerance.getD 0)
  let cs := bayClassesOf p front cfg.bays doors
  let grant := grantSet v (cfg.params.partAllowance == 1) isolated cs
  let evac := evacuationSet isolated cs
  { m with
    front := some front
    error := some e
    verdict := some v
    bayClasses := some cs
    doorClasses := some (doorClassesOf p front cfg.bays doors)
    grant := grant
    doorList := doorsMetBy p front cfg.bays doors grant
    evacuation := evac
    evacDoors := doorsMetBy p front cfg.bays doors evac }

/-- The results of a measurement whose sixteenth sample left its run not full (R50), written into its record. -/
def withoutFront (m : Measurement) : Measurement :=
  { m with
    front := none
    error := none
    verdict := some .indeterminate
    bayClasses := none
    doorClasses := none
    grant := []
    doorList := []
    evacuation := []
    evacDoors := [] }

end Sys2Proof.Machine
end

