-- ==== Sys2Proof/Machine/Operands.lean ====
section
/-!
DEFINITION. The operand forms of the commands: the beacon (section 11.4), the answer frames of the Bay
Bus (section 11.3, R171), the frames and flag sets of the Station Link (section 11.2) and the face
parameters (R11, R12).
-/

namespace Sys2Proof.Machine

/-! ### The Train Link -/

/-- The beacon that a byte block spells, where it is good (R20, R171): 7 bytes, type 0xB1, the check
agreeing with its contents, and motion MOVING or STATIONARY. -/
def beaconOf (bs : List Byte) : Option Beacon :=
  match bs with
  | [t, code, th, tl, fl, ch, cl] =>
    let motion := fl.toNat % 4
    if t = 0xB1#8 ∧ be2 (crc16 [t, code, th, tl, fl]).toNat = [ch, cl] ∧ (motion = 1 ∨ motion = 2) then
      some
        { code := code
          train := BitVec.ofNat 16 (ofBytes [th, tl])
          moving := motion == 1
          doorsClosed := fl.getLsbD 2
          ready := fl.getLsbD 3
          emergency := fl.getLsbD 4 }
    else none
  | _ => none

/-- Bytes 5 to 10 of a platform answer, and a list of train doors in a reply: byte j, bit b for door
8j + b + 1. -/
def doorBytes (doors : List Nat) : List Byte :=
  [0, 1, 2, 3, 4, 5].map fun j =>
    BitVec.ofNat 8 (bitsOf ((doors.filter fun k => decide (8 * j + 1 ≤ k ∧ k ≤ 8 * j + 8)).map (· - (8 * j + 1))))

/-- A yes/no as a number. -/
def yesNo (b : Bool) : Nat := if b then 1 else 0

/-- The platform answer's bytes (R29, section 11.4). Bits 3 to 7 of byte 4, which that section does not name,
are sent as 0 (DESIGN CHOICE, notes/assumptions/42.md). -/
def answerBytes (train : BitVec 16) (code : Byte) (doors : List Nat) (enable closed hold : Bool) : List Byte :=
  withCheck16
    ([0xB2#8] ++ be2 train.toNat ++ [code]
      ++ be1 (yesNo enable + 2 * yesNo closed + 4 * yesNo hold) ++ doorBytes doors)

/-! ### The Bay Bus -/

/-- The frames of a transaction that the master sends (R91, section 11.3). -/
def transactionFrames (addr mask order : Nat) (datum : Option Bool) : List (List Byte) :=
  [withCheck8 [0xC1#8, BitVec.ofNat 8 (addr % 32 + 32 * mask)],
   withCheck8 [0xC2#8, BitVec.ofNat 8 order]]
    ++ match datum with
      | some d => [withCheck8 [0xC3#8, BitVec.ofNat 8 (yesNo d)]]
      | none => []

def orderReport : Nat := 4

def orderWarn : Nat := 3

def orderQuery : Nat := 5

/-- An ACK or BUSY answer of the type byte `t` from the addressed unit (R171). -/
def isShortAnswer (t : Byte) (addr : Nat) (bs : List Byte) : Bool :=
  match bs with
  | [x, u, c] => decide (x = t ∧ u.toNat = addr ∧ x + u + c = 0#8)
  | _ => false

def leafOf : Nat → Option Leaf
  | 0 => some .closed
  | 1 => some .opening
  | 2 => some .opened
  | 3 => some .closing
  | 4 => some .stopped
  | _ => none

/-- The beam event entries of a REPORT answer, two bytes each (section 11.3). -/
def beamEvents : List Byte → List BeamEvent
  | h :: l :: rest =>
    { beam := if h.getLsbD 7 then .b else .a
      make := h.getLsbD 6
      age := (h.toNat % 4) * 256 + l.toNat } :: beamEvents rest
  | _ => []

/-- The report that an answer frame carries, where it is an answer to a REPORT to `addr` (R171): the
address, the type, a leaf value of at most 4, at most 4 beam events, the length they fix and the check. The bits
that section 11.3 lays down as 0, bit 7 of byte 3 and bits 10 to 13 of a beam entry, are ignored
(DESIGN CHOICE, notes/assumptions/39.md). -/
def reportOf (addr : Nat) (bs : List Byte) : Option Report :=
  match bs with
  | t :: u :: x :: y :: rest =>
    let e := (y.toNat / 16) % 8
    match leafOf (x.toNat % 8) with
    | none => none
    | some leaf =>
      if t = 0xD4#8 ∧ u.toNat = addr ∧ e ≤ 4 ∧ rest.length = 2 * e + 1 ∧ sum8 bs = 0#8 then
        some
          { leaf := leaf
            lock := x.getLsbD 3
            obstacle := x.getLsbD 4
            pulled := x.getLsbD 5
            gapActive := x.getLsbD 6
            attention := x.getLsbD 7
            count := y.toNat % 16
            events := beamEvents (rest.take (2 * e)) }
      else none
  | _ => none

/-- Bytes 2 to 3 + 2e of the REPORT answer that carried a report (section 11.3). -/
def reportBytes (r : Report) : List Byte :=
  be1 (r.leaf.number + 8 * yesNo r.lock + 16 * yesNo r.obstacle + 32 * yesNo r.pulled
      + 64 * yesNo r.gapActive + 128 * yesNo r.attention)
    ++ be1 (r.count + 16 * r.events.length)
    ++ r.events.flatMap fun v => be2 (32768 * v.beam.number + 16384 * yesNo v.make + v.age)

/-! ### Flag sets (section 11.2) -/

/-- Bit n − 1 of a flag set stands for flag n. -/
def FlagSet.has (m : FlagSet) (fl : Flag) : Bool := m.getLsbD (fl.number - 1)

/-- A flag set with RELEASE left out (R141). -/
def maskable (m : FlagSet) : FlagSet := m &&& 0x3F#7

/-- The flag set in a byte: its lowest seven bits. -/
def flagsOfByte (n : Nat) : FlagSet := BitVec.ofNat 7 n

/-! ### Face parameters (R11, R12) -/

/-- The parameters, numbered from 1 in the order of the table of R11, FIRE sense last. -/
def fireSenseParam : Nat := 21

def maskParam : Nat := 20

/-- A numbered parameter's range (R11); the two-way parameters have the codes 0 and 1. The default
fault mask (20) has no numeric range. -/
def paramRange : Nat → Option (Nat × Nat)
  | 1 => some (100, 900)
  | 2 => some (500, 1500)
  | 3 => some (0, 1)
  | 4 => some (0, 1)
  | 5 => some (0, 1)
  | 6 => some (5, 180)
  | 7 => some (0, 1)
  | 8 => some (2, 20)
  | 9 => some (0, 12)
  | 10 => some (1, 5)
  | 11 => some (1, 8)
  | 12 => some (0, 5)
  | 13 => some (1, 5)
  | 14 => some (0, 10)
  | 15 => some (3, 10)
  | 16 => some (500, 3000)
  | 17 => some (100, 2000)
  | 18 => some (50, 1500)
  | 19 => some (0, 1)
  | 21 => some (0, 1)
  | _ => none

/-- A value raised to its lower bound or lowered to its upper bound (R162). -/
def clampTo (lo hi v : Nat) : Nat := max lo (min hi v)

/-- A face's parameters with the numbered one, of numeric value `v`, written. -/
def Params.write (p : Params) (n v : Nat) : Params :=
  match n with
  | 1 => { p with strengthFloor := v }
  | 2 => { p with minimumOverlap := v }
  | 3 => { p with partAllowance := v }
  | 4 => { p with trainConsent := v }
  | 5 => { p with autoClose := v }
  | 6 => { p with dwellBase := v }
  | 7 => { p with dwellMode := v }
  | 8 => { p with extensionStep := v }
  | 9 => { p with maxExtensions := v }
  | 10 => { p with flowWindow := v }
  | 11 => { p with warningPeriod := v }
  | 12 => { p with closeRetries := v }
  | 13 => { p with reopenPause := v }
  | 14 => { p with doorwayHold := v }
  | 15 => { p with openTravel := v }
  | 16 => { p with lockProof := v }
  | 17 => { p with gapQualify := v }
  | 18 => { p with pairingWindow := v }
  | 19 => { p with loopSense := v }
  | _ => p

end Sys2Proof.Machine
end

