-- ==== Sys2Proof/Machine/Flags.lean ====
section
/-!
DEFINITION. The Fault Unit's flags, mask, summary and Fault Record (R138 to R146) and Permit Logic
(R153, R154). What a change of the summary does to the face state stands in Sequencer.lean, with the
entry to HELD.
-/

namespace Sys2Proof.Machine

/-- A flag's entry: present while the flag is set. -/
def FlagTable.get (t : FlagTable) : Flag → Option FlagInfo
  | .align => t.align
  | .obstruct => t.obstruct
  | .lock => t.lock
  | .gap => t.gap
  | .silent => t.silent
  | .link => t.link
  | .release => t.release

def FlagTable.put (t : FlagTable) (fl : Flag) (x : Option FlagInfo) : FlagTable :=
  match fl with
  | .align => { t with align := x }
  | .obstruct => { t with obstruct := x }
  | .lock => { t with lock := x }
  | .gap => { t with gap := x }
  | .silent => { t with silent := x }
  | .link => { t with link := x }
  | .release => { t with release := x }

/-- The seven flags in the order of their numbers. -/
def allFlags : List Flag := [.align, .obstruct, .lock, .gap, .silent, .link, .release]

/-- The precedence of R146. -/
def flagPrecedence : List Flag := [.release, .lock, .gap, .obstruct, .silent, .link, .align]

/-- The flags set, as a flag set. -/
def FlagTable.toSet (t : FlagTable) : FlagSet :=
  BitVec.ofNat 7 (bitsOf ((allFlags.filter fun fl => (t.get fl).isSome).map fun fl => fl.number - 1))

/-- The summary (R142): some flag is set whose mask bit is clear. -/
def FaultUnit.summary (u : FaultUnit) : Bool :=
  allFlags.any fun fl => (u.flags.get fl).isSome && !FlagSet.has u.mask fl

/-- The flags set and unmasked (R88). -/
def FaultUnit.unmasked (u : FaultUnit) : FlagSet := u.flags.toSet &&& ~~~u.mask

/-- STAFF ALARM equals the summary (R156). -/
def State.staffAlarm (s : State) (f : Face) : Bool := (s.face f).fault.summary

/-- A condition is taken (R139): a clear flag becomes set with its bay and time, and FAULT_SET is
posted; a set flag stays as it was. -/
def setFlag (f : Face) (fl : Flag) (bay : Option Nat) (s : State) : State :=
  match (s.face f).fault.flags.get fl with
  | some _ => s
  | none =>
    post .faultSet (some f) bay [fl.number, yesNo (FlagSet.has (s.face f).fault.mask fl)]
      (modFault f (fun u => { u with flags := u.flags.put fl (some ⟨bay, s.time⟩) }) s)

/-- The Fault Record is captured (R145) with the first candidate in the precedence of R146. -/
def capture (f : Face) (byMask : Bool) (candidate : Flag → Bool) (s : State) : State :=
  match flagPrecedence.find? candidate with
  | none => s
  | some fl =>
    modFace f (fun b =>
      { b with
        fault :=
          { b.fault with
            record := some
              { flag := fl
                bay := (b.fault.flags.get fl).bind (·.bay)
                state := b.seq.state
                substate := b.seq.substate
                lastAccepted := b.seq.lastAccepted
                time := s.time
                byMask := byMask } } }) s

/-- The states in which a summary that becomes set moves the face to HELD (R87, R143). -/
def FaceState.summaryMoves : FaceState → Bool
  | .empty => true
  | .arriving => true
  | .measuring => true
  | .berthed => true
  | .opening => true
  | .opened => true
  | .closing => true
  | .closedLocked => true
  | _ => false

/-! ### Permit Logic -/

/-- The states in which the permit may stand (R153). -/
def FaceState.mayPermit : FaceState → Bool
  | .empty => true
  | .arriving => true
  | .measuring => true
  | .berthed => true
  | .closedLocked => true
  | _ => false

/-- The composition of PERMIT from its five inputs (R153). -/
def State.permitComposed (s : State) (f : Face) : Bool :=
  (s.stateOf f).mayPermit && s.loopClosed f
    && (s.face f).bays.all (fun e => e.locked && !e.silent && !e.gapIsActive)

/-- PERMIT is composed again at the end of an event (R154): where the value differs from the value
driven, the line takes it and PERMIT_CHANGED is posted. -/
def composePermit (f : Face) (s : State) : State :=
  let v := s.permitComposed f
  if v = (s.face f).permit then s
  else post .permitChanged (some f) none [yesNo v] (modFace f (fun b => { b with permit := v }) s)

/-- The end of an event: both faces' permits are composed (R154), face A's PERMIT_CHANGED before face B's, an
order that R168 leaves open (DESIGN CHOICE, notes/assumptions/12.md). -/
def settle (s : State) : State := composePermit .b (composePermit .a s)

end Sys2Proof.Machine
end

