-- ==== Sys2Proof/Machine/Berth.lean ====
section
/-!
DEFINITION. The Berth Monitor's consist selection and expectations (R32, R33, R35). Its indications and
its handling of beacons stand in Train.lean, after the face states they move.
-/

namespace Sys2Proof.Machine

/-- A consist is usable at a face: in the catalogue, with a stop mark there (2.8). -/
def State.usable (s : State) (f : Face) (code : Nat) : Bool :=
  s.store.consists.any (fun c => c.code == code) && (s.cfg f).stops.any (fun m => m.code == code)

/-- The berth consist that the selection of R32 gives. -/
def State.selection (s : State) (f : Face) (code : Nat) (train : BitVec 16) : Option (Nat × Source) :=
  if s.usable f code then some (code, .train)
  else
    match (s.face f).berth.active with
    | some x => if s.usable f x.code && x.train.all (· == train) then some (x.code, .expected) else none
    | none => none

/-- The selection is made and kept (R32). -/
def select (f : Face) (code : Nat) (train : BitVec 16) (s : State) : State :=
  modBerth f (fun b => { b with consist := s.selection f code train }) s

/-- CONSIST_MISMATCH where the active expectation disagrees with the selecting beacon (R33). -/
def postMismatch (f : Face) (code : Nat) (train : BitVec 16) (s : State) : State :=
  match (s.face f).berth.active with
  | none => s
  | some x =>
    if x.code ≠ code ∨ x.train.any (· != train) then
      post .consistMismatch (some f) none
        [code, x.code, sourceNumber ((s.face f).berth.consist.map (·.2))] s
    else s

/-- The trigger of R35: a staged expectation becomes the active one. -/
def promote (f : Face) (s : State) : State :=
  modBerth f (fun b =>
    match b.staged with
    | some x => { b with active := some x, staged := none }
    | none => b) s

end Sys2Proof.Machine
end

