-- ==== Sys2Proof/Machine/Bus.lean ====
section
/-!
DEFINITION. The Bay Bus Master's own work: order slots and the dispatch list (R96 to R101), turns
(R96, R104) and the search's queries (R106). What an answered report does to the rest of the face
stands in Delivery.lean.
-/

namespace Sys2Proof.Machine

/-- An entry placed at the end of the dispatch list (R96). -/
def place (f : Face) (x : DispatchEntry) (s : State) : State :=
  modBus f (fun b => { b with dispatch := b.dispatch ++ [x] }) s

/-- An order is issued to a bay (R97): into the in-flight slot and onto the dispatch list, or into the
waiting slot in place of an order there. An order for a bay that is not configured is not taken. -/
def issue (f : Face) (n : Nat) (o : BayOrder) (s : State) : State :=
  match s.bay f n with
  | none => s
  | some e =>
    if e.inFlight = none ∧ e.busyHold = false then
      place f (.unicast n o) (modBay f n (fun e => { e with inFlight := some o }) s)
    else modBay f n (fun e => { e with waiting := some o }) s

/-- OPEN or CLOSE issued to bays in the order of a list. -/
def issueAll (f : Face) (o : BayOrder) (ns : List Nat) (s : State) : State :=
  ns.foldl (fun s n => issue f n o s) s

/-- A group WARN (R100) is placed, and the sounding of the warning noted (R62). -/
def groupWarn (f : Face) (on : Bool) (s : State) : State :=
  modSeq f (fun r => { r with warning := on }) (place f (.groupWarn on) s)

/-- WARN with datum off where a warning sounds (R86, R87, R129, R136). -/
def cutWarning (f : Face) (s : State) : State :=
  if (s.face f).seq.warning then groupWarn f false s else s

def DispatchEntry.isUnicastTo (n : Nat) : DispatchEntry → Bool
  | .unicast m _ => m == n
  | _ => false

def DispatchEntry.isUnicast : DispatchEntry → Bool
  | .unicast _ _ => true
  | _ => false

/-- The entries not yet sent: those for the gap before the turn, and those behind them. -/
def Bus.unsent (b : Bus) : List DispatchEntry := b.gap ++ b.dispatch

/-- A group CLOSE (R100): the unicast orders not yet sent leave the dispatch list and their bays'
in-flight slots, every waiting slot empties, every busy hold is released, and the CLOSE is placed. -/
def groupClose (f : Face) (s : State) : State :=
  let unsent := (s.face f).bus.unsent
  let s := modBays f (fun e =>
    { e with
      inFlight := if unsent.any (DispatchEntry.isUnicastTo e.num) then none else e.inFlight
      waiting := none
      busyHold := false }) s
  let s := modBus f (fun b =>
    { b with
      gap := b.gap.filter (fun x => !x.isUnicast)
      dispatch := b.dispatch.filter (fun x => !x.isUnicast) }) s
  place f .groupClose s

/-- A CLOSE order, unicast or group. -/
def DispatchEntry.isClose : DispatchEntry → Bool
  | .unicast _ .closeLeaf => true
  | .groupClose => true
  | _ => false

def DispatchEntry.isCloseTo (n : Nat) : DispatchEntry → Bool
  | .unicast m .closeLeaf => m == n
  | _ => false

/-- Every CLOSE order of the face that has not yet gone out is dropped (R129 step 3, R136); OPEN and
group WARN orders are left as they stand. -/
def dropCloses (f : Face) (s : State) : State :=
  let unsent := (s.face f).bus.unsent
  let s := modBays f (fun e =>
    { e with
      inFlight := if unsent.any (DispatchEntry.isCloseTo e.num) then none else e.inFlight
      waiting := if e.waiting = some .closeLeaf then none else e.waiting }) s
  modBus f (fun b =>
    { b with
      gap := b.gap.filter (fun x => !x.isClose)
      dispatch := b.dispatch.filter (fun x => !x.isClose) }) s

/-- A waiting order moves into the in-flight slot and onto the dispatch list (R98, R99, R101). -/
def moveUp (f : Face) (n : Nat) (s : State) : State :=
  match (s.bay f n).bind (·.waiting) with
  | none => s
  | some o =>
    place f (.unicast n o) (modBay f n (fun e => { e with inFlight := some o, waiting := none }) s)

/-- A follow-up REPORT, at most one per bay on the list (R96). -/
def placeFollowUp (f : Face) (n : Nat) (s : State) : State :=
  if (s.face f).bus.unsent.contains (.followUp n) then s else place f (.followUp n) s

/-! ### Sending -/

/-- The frames of a transaction go out on the bus. -/
def send (f : Face) (addr mask order : Nat) (datum : Option Bool) (s : State) : State :=
  modBus f (fun b => { b with out := b.out ++ transactionFrames addr mask order datum }) s

/-- The SELECT and ORDER frames of a transaction of a kind: address, mask and order code. -/
def TransKind.frames : TransKind → Nat × Nat × Nat
  | .order n o => (n, 0, o.number)
  | .followUp n => (n, 0, orderReport)
  | .poll n _ => (n, 0, orderReport)
  | .hit n => (n, 0, orderReport)
  | .query m b => (b, m, orderQuery)
  | .groupClose => (0, 5, BayOrder.closeLeaf.number)
  | .groupWarn _ => (0, 5, orderWarn)

/-- The DATUM frame of a transaction of a kind, which WARN alone has. -/
def TransKind.datum : TransKind → Option Bool
  | .groupWarn on => some on
  | _ => none

/-- A transaction is sent and its answer window opens (R91). -/
def start (f : Face) (k : TransKind) (repeated : Bool) (s : State) : State :=
  let s := send f k.frames.1 k.frames.2.1 k.frames.2.2 k.datum s
  modBus f (fun b => { b with outstanding := some ⟨k, repeated, s.time + ms Config.answerWindow⟩ }) s

/-- The turn's own transaction (R96, R104, R106, R107): the query or the hit of a search, a mask-5
query after 8 polls or a successful hit, or else the poll at the cursor. -/
def ownTransaction (f : Face) (s : State) : State :=
  let b := (s.face f).bus
  match b.search with
  | .hit a => start f (.hit a) false s
  | .lower base mask => start f (.query mask base) false s
  | .upper base mask => start f (.query mask (base + 2 ^ mask)) false s
  | .idle =>
    if b.queryNext ∨ Config.pollsPerQuery ≤ b.polls then
      start f (.query 5 0) false (modBus f (fun b => { b with polls := 0, queryNext := false }) s)
    else
      match b.cursor with
      | none => s
      | some n => start f (.poll n (s.stateOf f == .survey)) false s

/-- The transaction that sends an entry of the dispatch list. -/
def DispatchEntry.kind : DispatchEntry → TransKind
  | .unicast n o => .order n o
  | .groupClose => .groupClose
  | .groupWarn on => .groupWarn on
  | .followUp n => .followUp n

/-- The next entry of the gap goes out as one transaction; after the last entry comes the turn's own
transaction (R96). -/
def serveGap (f : Face) : List DispatchEntry → State → State
  | [], s => ownTransaction f (modBus f (fun b => { b with gap := [], turning := false }) s)
  | x :: rest, s => start f x.kind false (modBus f (fun b => { b with gap := rest }) s)

/-- A turn has ended: the entries that stand on the dispatch list now are those of the gap before the
next turn (R96). The start of polling counts as such an end
(DESIGN CHOICE, notes/assumptions/17.md). -/
def endTurn (f : Face) (s : State) : State :=
  modBus f (fun b => { b with gap := b.gap ++ b.dispatch, dispatch := [] }) s

/-- A transaction has ended: the master goes on with the gap it serves, or else its turn has ended
(R96). -/
def busContinue (f : Face) (s : State) : State :=
  if (s.face f).bus.turning then serveGap f (s.face f).bus.gap s else endTurn f s

/-- The open transaction ends (R91). -/
def endTransaction (f : Face) (s : State) : State :=
  modBus f (fun b => { b with outstanding := none }) s

/-- A turn begins (R96), where the master holds bays and no transaction is outstanding, with the entries
that stood on the dispatch list when the previous turn ended. -/
def beginTurn (f : Face) (s : State) : State :=
  if (s.face f).bus.cursor = none ∨ (s.face f).bus.outstanding ≠ none then s
  else serveGap f (s.face f).bus.gap (modBus f (fun b => { b with turning := true }) s)

/-- The configured bay after a bay in the polling round (R104). -/
def nextBay (bays : List BayEntry) (n : Nat) : Option Nat :=
  match bays.find? (fun e => decide (n < e.num)) with
  | some e => some e.num
  | none => bays.head?.map (·.num)

/-! ### The attention search (R106 to R108) -/

/-- The half that a step took: the next step's lower half, or the hit. -/
def takeHalf (base mask : Nat) : Search :=
  if mask = 0 then .hit base else .lower base (mask - 1)

/-- What the wired bit of an attention query makes of the search. -/
def searchAfter (search : Search) (pulled : Bool) : Search :=
  match search with
  | .idle => if pulled then .lower 0 4 else .idle
  | .lower base mask => if pulled then takeHalf base mask else .upper base mask
  | .upper base mask => if pulled then takeHalf (base + 2 ^ mask) mask else .idle
  | .hit a => .hit a

end Sys2Proof.Machine
end

