-- ==== Sys2Proof/Machine/Sensing.lean ====
section
/-!
DEFINITION. The Sensing Unit's arithmetic: gap qualification (R111, R112), beam edges and their times
(R115, R116) and passage decoding (R117, R118). Where its results act stands in Delivery.lean.
-/

namespace Sys2Proof.Machine

/-- What one report makes of a gap qualifier (R111, R112), with the qualification time `qt` in
milliseconds. Where row 6 changes the qualified state, the time the interval started comes with it. -/
def GapQualifier.take (q : GapQualifier) (qt : Nat) (raw : Bool) (count : Nat) (now : Time) :
    GapQualifier × Option Time :=
  let moved := q.lastCount.any (fun c => c != count)
  let q := { q with lastCount := some count }
  if raw = q.active then ({ q with start := none }, none)
  else
    match q.start with
    | none => ({ q with start := some now }, none)
    | some t =>
      if moved then ({ q with start := some now }, none)
      else if elapsed now t < qt then (q, none)
      else ({ q with active := raw, start := none, since := some now }, some t)

/-- The time of an edge (R115): the receipt time less the age, and never earlier than the bay's last
edge time. -/
def edgeTime (last : Option Time) (receipt : Time) (age : Nat) : Time :=
  let t := receipt - ms age
  match last with
  | some l => if laterThan l t then l else t
  | none => t

/-- A beam's level in a decoder. -/
def Decoder.broken (d : Decoder) : Side → Bool
  | .a => d.brokenA
  | .b => d.brokenB

/-- A beam's level set from an edge (R116). -/
def Decoder.setBeam (d : Decoder) (x : Side) (broken : Bool) : Decoder :=
  match x with
  | .a => { d with brokenA := broken }
  | .b => { d with brokenB := broken }

def otherSide : Side → Side
  | .a => .b
  | .b => .a

/-- A count that rises by 1 and holds at 65,535. -/
def bump (n : Nat) : Nat := min Config.countLimit (n + 1)

/-- The decoder back in IDLE with nothing held (R116). -/
def Decoder.toIdle (d : Decoder) : Decoder :=
  { d with state := .idle, firstBreak := none, entrySide := none }

/-- The second beam's BREAK, or the first beam's MAKE, in A_FIRST or B_FIRST (R117). -/
def Decoder.second (d : Decoder) (window : Nat) (entry beam : Side) (make : Bool) (t : Time) : Decoder :=
  if !make && beam == otherSide entry
      && d.firstBreak.any (fun t0 => decide (elapsed t t0 ≤ window)) then
    { d with state := .bothIn, entrySide := some entry, firstBreak := none }
  else { d.toIdle with discarded := bump d.discarded }

/-- What a consistent edge makes of the decoder (R117), with the levels as they stood before it; the
second part says whether a passage completes. -/
def Decoder.decode (d : Decoder) (window : Nat) (beam : Side) (make : Bool) (t : Time) : Decoder × Bool :=
  match d.state with
  | .idle =>
    if !make && !d.broken (otherSide beam) then
      ({ d with
          state := match beam with | .a => .aFirst | .b => .bFirst
          firstBreak := some t }, false)
    else (d, false)
  | .aFirst => (d.second window .a beam make t, false)
  | .bFirst => (d.second window .b beam make t, false)
  | .bothIn =>
    if make && !d.broken (otherSide beam) then
      (match d.entrySide with
        | some .b => { d.toIdle with alighted := bump d.alighted }
        | _ => { d.toIdle with boarded := bump d.boarded }, true)
    else (d, false)

/-- One beam event of a report (R115 to R118): its edge time, the consistency test, decoding, the beam's
level, and the face's last-passage time. -/
def Decoder.edge (window : Nat) (receipt : Time) (x : Decoder × Option Time) (v : BeamEvent) :
    Decoder × Option Time :=
  let t := edgeTime x.1.lastEdge receipt v.age
  let d := { x.1 with lastEdge := some t }
  if d.broken v.beam = v.make then
    let r := d.decode window v.beam v.make t
    (r.1.setBeam v.beam (!v.make),
      if r.2 && x.2.all (fun p => laterThan t p) then some t else x.2)
  else ({ d.toIdle with discarded := bump d.discarded }.setBeam v.beam (!v.make), x.2)

/-- A report's beam events, taken one after another, oldest first (R110 step 2). -/
def Decoder.take (d : Decoder) (window : Nat) (receipt : Time) (last : Option Time) (vs : List BeamEvent) :
    Decoder × Option Time :=
  vs.foldl (Decoder.edge window receipt) (d, last)

/-- The counts return to 0 (R119). -/
def Decoder.clearCounts (d : Decoder) : Decoder := { d with boarded := 0, alighted := 0, discarded := 0 }

/-- A sum over the bays with passage beams fitted. -/
def sumCounts (bays : List BayEntry) (g : Decoder → Nat) : Nat :=
  bays.foldl (fun n e => n + (e.beams.map g).getD 0) 0

/-- The number of a face's qualifiers that are ACTIVE (R122). -/
def activeGaps (bays : List BayEntry) : Nat := (bays.filter BayEntry.gapIsActive).length

end Sys2Proof.Machine
end

