-- ==== Sys2Proof/Machine/Sequencer.lean ====
section
/-!
DEFINITION. The Face Sequencer: every entry into a face state but RELEASED and OUT_OF_SERVICE, the
order slot, opening, the dwell, the closing procedure, HELD and SURVEY (R62 to R90), with the
measurement's beginning, completion and abandonment (R37 to R39, R58, R59) and the raising of fault
conditions (R140, R143), which these entries make.
-/

namespace Sys2Proof.Machine

/-! ### Measurements that end, orders that lapse, procedures that end -/

/-- The Alignment Unit turns to the waiting face (R39). -/
def turnUnit (s : State) : State :=
  match s.waitingFor with
  | none => { s with serving := none }
  | some g =>
    modMeas g (fun m => { m with status := .sampling, startTime := some s.time })
      { s with serving := some g, waitingFor := none }

/-- A measurement in flight is abandoned as its face leaves MEASURING (R59). -/
def abandon (f : Face) (c : AbandonCause) (s : State) : State :=
  if (s.face f).meas.status = .waiting ∨ (s.face f).meas.status = .sampling then
    let s := modMeas f (fun m =>
      { m with status := .abandoned, completion := some s.time, abandon := some c }) s
    if s.serving = some f then turnUnit s
    else if s.waitingFor = some f then { s with waitingFor := none }
    else s
  else s

/-- A pending order lapses (R72). -/
def lapse (f : Face) (s : State) : State :=
  match (s.face f).seq.slot with
  | none => s
  | some id => post .orderLapsed (some f) none [id.toNat] (modSeq f (fun r => { r with slot := none }) s)

/-- A closing procedure ends (R81): every phase deadline is cancelled and the list is kept. -/
def endProcedure (f : Face) (s : State) : State :=
  modSeq f (fun r =>
    { r with
      closing := r.closing.map fun e => { e with deadline := none, travel := none }
      closingKind := none
      endOfWarning := none
      doorway := none }) s

/-- The connection hold record is cleared (R80). -/
def clearHold (f : Face) (s : State) : State := modSeq f (fun r => { r with hold := none }) s

/-- What entry to HELD and to RELEASED do alike to the Face Record (R87, R129 step 2): the pending order
lapses, the hold record and the deadlines go, the closing procedure ends, a sounding warning is cut and
a measurement is abandoned. -/
def stopSequence (f : Face) (c : AbandonCause) (s : State) : State :=
  let s := clearHold f (lapse f s)
  let s := modSeq f (fun r => { r with dwellDeadline := none, openTravel := none }) s
  abandon f c (cutWarning f (endProcedure f s))

/-- Entry to HELD (R87). -/
def enterHeld (f : Face) (s : State) : State := setState f .held (stopSequence f .held s)

/-! ### Raising conditions (R139, R140, R143) -/

/-- The summary has become set: the face enters HELD from the states of R143. -/
def summarySet (f : Face) (s : State) : State :=
  if (s.stateOf f).summaryMoves then enterHeld f s else s

/-- The flags that one occurrence newly set, whose mask bits are clear (R146). -/
def newlySet (old new : FaultUnit) (fl : Flag) : Bool :=
  (old.flags.get fl).isNone && (new.flags.get fl).isSome && !FlagSet.has new.mask fl

/-- The conditions that one event raises are taken as one occurrence (R140). A face that is
OUT_OF_SERVICE takes none (R138). -/
def raise (f : Face) (conds : List (Flag × Option Nat)) (s : State) : State :=
  if s.stateOf f = .outOfService then s
  else
    let old := (s.face f).fault
    let s := conds.foldl (fun s c => setFlag f c.1 c.2 s) s
    let new := (s.face f).fault
    if !old.summary && new.summary then summarySet f (capture f false (newlySet old new) s) else s

/-- GAP raised at an entry to EMPTY or CLOSED_LOCKED for each bay whose qualifier is ACTIVE (R114). -/
def raiseGaps (f : Face) (s : State) : State :=
  raise f (((s.face f).bays.filter BayEntry.gapIsActive).map fun e => (.gap, some e.num)) s

/-! ### EMPTY and ARRIVING -/

/-- Entry to EMPTY (R67, R36, R32, R22, R61); from CLOSED_LOCKED DEPARTED is posted (R85), before the GAP
that R114 raises (DESIGN CHOICE, notes/assumptions/12.md). -/
def enterEmpty (f : Face) (s : State) : State :=
  let left := s.stateOf f
  let s := if left = .arriving ∨ left = .measuring ∨ left = .berthed then lapse f s else s
  let s := setState f .empty (abandon f .vacant s)
  let s := makeStale f (modSeq f (fun r => { r with hold := none, grant := [] }) s)
  let s := modBerth f (fun b => { b with active := none, consist := none, lossReported := false }) s
  let s :=
    if left = .closedLocked then
      post .departed (some f) none [((s.face f).seq.lastAccepted.map BitVec.toNat).getD 0] s
    else s
  raiseGaps f s

/-- Entry to ARRIVING (R64, R67, R119). -/
def enterArriving (f : Face) (s : State) : State :=
  let s := promote f (setState f .arriving (abandon f .moving s))
  let s := modSeq f (fun r => { r with lastAccepted := none, acceptedIds := [], grant := [] }) s
  let s := modBays f (fun e => { e with beams := e.beams.map Decoder.clearCounts }) s
  let s := modSensing f (fun _ => { lastPassage := none, clearedAt := some s.time }) s
  makeStale f s

/-! ### SURVEY -/

/-- A poll in progress at the entry to SURVEY was made before it and does not count (R89). -/
def Trans.beforeSurvey (t : Trans) : Trans :=
  match t.kind with
  | .poll n _ => { t with kind := .poll n false }
  | _ => t

/-- Entry to SURVEY (R89). The release phase is NONE outside RELEASED (R123). -/
def enterSurvey (f : Face) (s : State) : State :=
  let s := endProcedure f (modBays f (fun e => { e with surveyPolls := 0 }) s)
  let s := modBus f (fun b => { b with outstanding := b.outstanding.map Trans.beforeSurvey }) s
  let s := modRelease f (fun r => { r with phase := .none }) s
  groupWarn f false (setState f .survey s)

/-! ### The closing procedure (R81 to R85) -/

/-- A change of one bay's entry in the closing list. -/
def modEntry (f : Face) (n : Nat) (g : ClosingEntry → ClosingEntry) (s : State) : State :=
  modSeq f (fun r => { r with closing := r.closing.map fun e => if e.bay = n then g e else e }) s

/-- A bay's entry in the closing list. -/
def State.entry (s : State) (f : Face) (n : Nat) : Option ClosingEntry :=
  (s.face f).seq.closing.find? (fun e => e.bay = n)

/-- A closing procedure runs. -/
def State.closingRuns (s : State) (f : Face) : Bool := (s.face f).seq.closingKind.isSome

/-- The phase of a bay in the procedure that runs. -/
def State.phaseOf (s : State) (f : Face) (n : Nat) : Option Phase :=
  if s.closingRuns f then (s.entry f n).map (·.phase) else none

/-- The close travel deadline of a CLOSE ordered now (R83). -/
def State.travelDeadline (s : State) (f : Face) : Time := s.time + sec (s.params f).openTravel

/-- A bay is ordered CLOSE and enters SENT. -/
def orderClose (f : Face) (n : Nat) (s : State) : State :=
  modEntry f n (fun e =>
    { e with phase := .sent, deadline := none, proving := false, travel := some (s.travelDeadline f) })
    (issue f n .closeLeaf s)

/-- A bay enters PAUSE for the reopen pause (R83, R84). -/
def pauseBay (f : Face) (n : Nat) (s : State) : State :=
  modEntry f n (fun e =>
    { e with
      phase := .pause
      deadline := some (s.time + sec (s.params f).reopenPause)
      proving := false
      travel := none }) s

/-- What work does to the state, and the conditions that it raises in turn. -/
abbrev Raising := State × List (Flag × Option Nat)

/-- The conditions of one event are raised, once it has done its work (R140). -/
def raised (f : Face) (x : Raising) : State := raise f x.2 x.1

/-- A retry is counted and weighed against the close retries (R83, R144). -/
def countRetry (f : Face) (n : Nat) (s : State) : Raising :=
  let s := modEntry f n (fun e => { e with retries := e.retries + 1 }) s
  let count := ((s.entry f n).map (·.retries)).getD 0
  let limit := (s.params f).closeRetries
  if count ≤ limit then (s, [])
  else if FlagSet.has (s.face f).fault.mask .obstruct then
    if count = limit + 1 then (post .bayObstructed (some f) (some n) [count] s, [(.obstruct, some n)])
    else (s, [])
  else
    (post .bayObstructed (some f) (some n) [count]
      (modEntry f n (fun e => { e with phase := .left, deadline := none, travel := none }) s),
      [(.obstruct, some n)])

/-- Whether a gap trip may order a bay OPEN (R84, R135): never in a MOTION procedure; in a RECOVERY one a
bay of the evacuation set of a CURRENT record; else a granted bay; and no isolated bay. -/
def State.tripOpens (s : State) (f : Face) (n : Nat) : Bool :=
  match (s.face f).seq.closingKind, s.bay f n with
  | some .motion, _ => false
  | some .recovery, some e => (s.face f).meas.readEvacuation.contains n && !e.isolated
  | some _, some e => e.granted && !e.isolated
  | _, _ => false

/-- A gap trip (R84): OPEN where it may be ordered, PAUSE and a retry. -/
def gapTrip (f : Face) (n : Nat) (s : State) : Raising :=
  let s := if s.tripOpens f n then issue f n .openLeaf s else s
  countRetry f n (pauseBay f n s)

/-- A bay would be ordered CLOSE from WAITING or DOORWAY: an ACTIVE gap makes it a gap trip (R84). -/
def closeOrTrip (f : Face) (n : Nat) (s : State) : Raising :=
  if (s.bay f n).any BayEntry.gapIsActive then gapTrip f n s else (orderClose f n s, [])

/-- The highest retry count of a closing list (R85). -/
def highestRetry (es : List ClosingEntry) : Nat := es.foldl (fun m e => max m e.retries) 0

/-- Entry to CLOSED_LOCKED at the end of a NORMAL or MOTION procedure (R85, R114), whose record is posted
before GAP is raised (DESIGN CHOICE, notes/assumptions/12.md); a face already vacant passes on to EMPTY
(R25, R85). -/
def enterClosedLocked (f : Face) (s : State) : State :=
  let s := setState f .closedLocked (endProcedure f s)
  let s := raiseGaps f
    (post .closedLocked (some f) none [highestRetry (s.face f).seq.closing] s)
  if (s.face f).berth.vacant ∧ s.stateOf f = .closedLocked then enterEmpty f s else s

/-- A procedure whose every entry is LOCKED ends as its kind says (R81 table, R85, R88, R135). -/
def finishClosing (f : Face) (s : State) : State :=
  if (s.face f).seq.closing.all (fun e => e.phase == .locked) then
    match (s.face f).seq.closingKind with
    | none => s
    | some .heldClose => endProcedure f s
    | some .recovery => enterSurvey f s
    | some _ => enterClosedLocked f s
  else s

/-- A closing list at a procedure's start (R81): locked bays LOCKED, every other bay in `phase`. -/
def closingList (bays : List BayEntry) (phase : Phase) (travel : Option Time) : List ClosingEntry :=
  bays.map fun e =>
    if e.locked then ⟨e.num, .locked, 0, none, false, false, none⟩
    else ⟨e.num, phase, 0, none, false, false, travel⟩

/-- A procedure with a warning starts (R81, R135). -/
def startWarned (f : Face) (k : ClosingKind) (s : State) : State :=
  let s := modSeq f (fun r =>
    { r with
      closing := closingList (s.face f).bays .waiting none
      closingKind := some k
      endOfWarning := some (s.time + sec (s.params f).warningPeriod)
      doorway := none }) s
  groupWarn f true s

/-- A procedure whose CLOSE orders go out at once starts (R86, R88). -/
def startAtOnce (f : Face) (k : ClosingKind) (s : State) : State :=
  modSeq f (fun r =>
    { r with
      closing := closingList (s.face f).bays .sent (some (s.travelDeadline f))
      closingKind := some k
      endOfWarning := none
      doorway := none }) s

/-- Entry to CLOSING with kind NORMAL (R81): `detail` 1 for a true expiry, 2 for CLOSE ORDER. -/
def enterClosing (f : Face) (detail : Nat) (s : State) : State :=
  let s := setState f .closing (clearHold f s)
  finishClosing f (startWarned f .normal (post .closing (some f) none [detail] s))

/-- The bays not locked, ascending. -/
def State.unlockedBays (s : State) (f : Face) : List Nat :=
  ((s.face f).bays.filter (fun e => !e.locked)).map (·.num)

/-- CLOSE ORDER in HELD: a HELD_CLOSE procedure, replacing one that runs (R88). -/
def startHeldClose (f : Face) (s : State) : State :=
  finishClosing f (issueAll f .closeLeaf (s.unlockedBays f) (startAtOnce f .heldClose s))

/-- The recovery close (R135). CLOSE orders that a recovery close running before has issued stand, sent or
not (DESIGN CHOICE, notes/assumptions/36.md). -/
def startRecovery (f : Face) (s : State) : State :=
  finishClosing f (startWarned f .recovery (endProcedure f s))

/-- A train movement with bays open (R86). -/
def trainMovement (f : Face) (s : State) : State :=
  let s := post .trainMoved (some f) none [(s.stateOf f).number] s
  let s := endProcedure f (clearHold f s)
  let s := setState f .closing (modSeq f (fun r => { r with openTravel := none }) s)
  let s := groupClose f (cutWarning f s)
  finishClosing f (raise f [(.align, none)] (startAtOnce f .motion s))

/-! ### VACANT (R25, R65, R66, R85, R86) -/

/-- The indication VACANT, in the face state as it stands. At a train movement that VACANT makes, as at one
that MOVING makes, a CURRENT record has become STALE and no bay is granted any longer (R86). -/
def giveVacant (f : Face) (s : State) : State :=
  match s.stateOf f with
  | .arriving => enterEmpty f s
  | .measuring => enterEmpty f s
  | .berthed => enterEmpty f s
  | .closedLocked => enterEmpty f s
  | .opening => trainMovement f (makeStale f s)
  | .opened => trainMovement f (makeStale f s)
  | _ => s

/-- VACANT given again at an entry into a new state while vacant stays yes (R25). -/
def vacantAgain (f : Face) (s : State) : State :=
  if (s.face f).berth.vacant then giveVacant f s else s

/-! ### Opening and the order slot (R68 to R74) -/

/-- A bay of the grant set that is open or on the failed-to-open list (R73). -/
def State.openOrFailed (s : State) (f : Face) (n : Nat) : Bool :=
  (s.bay f n).any BayEntry.leafOpen || (s.face f).seq.failed.contains n

/-- Entry to OPEN (R73, R74, R80). -/
def enterOpen (f : Face) (s : State) : State :=
  let s := setState f .opened s
  let s := modSeq f (fun r =>
    { r with
      openTravel := none
      substate := some .dwell
      openSince := some s.time
      extensions := 0
      dwellDeadline := some (s.time + sec ((r.dwell.map (·.base)).getD 0))
      hold := r.hold.map fun h => { h with countingStart := some s.time } }) s
  let r := (s.face f).seq
  let nOpen := (r.grant.filter fun n => !r.failed.contains n && (s.bay f n).any BayEntry.leafOpen).length
  vacantAgain f (post .opened (some f) none [nOpen, r.failed.length] s)

/-- An OPENING face moves to OPEN as soon as every granted bay is open or has failed (R73). -/
def checkOpened (f : Face) (s : State) : State :=
  if s.stateOf f = .opening ∧ (s.face f).seq.grant.all (s.openOrFailed f) then enterOpen f s else s

/-- Entry to OPENING (R70) with the order that is accepted. -/
def enterOpening (f : Face) (id : Byte) (s : State) : State :=
  let s := setState f .opening s
  let s := modSeq f (fun r =>
    { r with
      slot := none
      lastAccepted := some id
      acceptedIds := insertAsc id.toNat r.acceptedIds }) s
  let s := post .orderAccepted (some f) none [id.toNat] s
  let s := modBerth f (fun b => { b with doorList := (s.face f).meas.readDoorList }) s
  let s := issueAll f .openLeaf (s.face f).seq.grant s
  let s := modSeq f (fun r =>
    { r with openTravel := some (s.time + sec (s.params f).openTravel), failed := [] }) s
  checkOpened f (vacantAgain f s)

/-- Train consent (R69). -/
def State.consent (s : State) (f : Face) : Bool :=
  (s.params f).trainConsent == 0
    || (!(s.face f).berth.present && FlagSet.has (s.face f).fault.mask .link)
    || (s.face f).berth.readyOffered == some true

/-- The conditions of the acceptance test but for the order itself (R69). -/
def State.mayOpen (s : State) (f : Face) : Bool :=
  s.stateOf f == .berthed
    && !(s.face f).seq.grant.isEmpty
    && (s.face f).seq.grant.all (fun n => !(s.bay f n).any (·.isolated))
    && (s.face f).enable.level
    && s.consent f

/-- The acceptance test (R69): where it passes, the face enters OPENING. -/
def acceptanceTest (f : Face) (s : State) : State :=
  match (s.face f).seq.slot with
  | none => s
  | some id => if s.mayOpen f then enterOpening f id s else s

/-! ### Measuring (R38, R39, R43, R49, R50, R58, R65) -/

/-- Entry to BERTHED (R65). -/
def enterBerthed (f : Face) (v : Verdict) (s : State) : State :=
  let s := setState f .berthed s
  let s := post .berthed (some f) none [v.number, (s.face f).seq.grant.length] s
  let s := if v = .onMark then s else raise f [(.align, none)] s
  vacantAgain f (acceptanceTest f s)

/-- A bay's class in a record's bay class list. -/
def Measurement.classOf (m : Measurement) (n : Nat) : Option Cls :=
  (m.bayClasses.bind fun cs => cs.find? (fun c => c.bay = n)).map (·.cls)

/-- A measurement completes with the results in `m` (R58). -/
def complete (f : Face) (v : Verdict) (m : Measurement) (s : State) : State :=
  let served := s.serving = some f
  let m := { m with verdict := some v, status := .current, completion := some s.time }
  let s := modMeas f (fun _ => m) s
  let s := modBays f (fun e => { e with cls := m.classOf e.num, granted := m.grant.contains e.num }) s
  let s := modSeq f (fun r => { r with grant := m.grant }) s
  let s := enterBerthed f v s
  if served then turnUnit s else s

/-- The new record of an entry to MEASURING (R38). -/
def State.newRecord (s : State) (f : Face) : Measurement :=
  match (s.face f).berth.consist with
  | none => { requestTime := some s.time }
  | some (code, src) =>
    let stop := (s.cfg f).stops.find? (fun m => m.code = code)
    { consist := some code
      source := some src
      antenna := (s.store.consists.find? (fun c => c.code = code)).map (·.antenna)
      mark := stop.map (·.mark)
      tolerance := stop.map (·.tolerance)
      requestTime := some s.time
      status := .waiting }

/-- A request reaches the Alignment Unit (R39). -/
def requestUnit (f : Face) (s : State) : State :=
  match s.serving with
  | some g =>
    if g = f then modMeas f (fun m => { m with status := .sampling, startTime := some s.time }) s
    else { s with waitingFor := some f }
  | none =>
    modMeas f (fun m => { m with status := .sampling, startTime := some s.time })
      { s with serving := some f }

/-- Entry to MEASURING (R38). -/
def enterMeasuring (f : Face) (s : State) : State :=
  let m := s.newRecord f
  let s := clearClasses f (modMeas f (fun _ => m) (setState f .measuring s))
  vacantAgain f (if m.consist = none then complete f .noConsist m s else requestUnit f s)

/-- The doors of the consist that a record was taken with. -/
def State.doorsOf (s : State) (m : Measurement) : List Door :=
  ((m.consist.bind fun code => s.store.consists.find? (fun c => c.code = code)).map (·.doors)).getD []

/-- A bay's isolation mark (R55). -/
def State.isolatedBay (s : State) (f : Face) (n : Nat) : Bool := (s.bay f n).any (·.isolated)

/-- A record with one more sample (R43, R48). -/
def Measurement.sampled (m : Measurement) (j : Judged) : Measurement :=
  let m := { m with samples := m.samples + 1, run := runAfter m.run j }
  match j with
  | .weak => { m with weak := m.weak + 1 }
  | .ghost => { m with ghost := m.ghost + 1 }
  | .range => { m with range := m.range + 1 }
  | .valid _ => m

/-- A reading of a SAMPLING face is taken as one sample (R43), and a full run or the sixteenth sample
completes the measurement (R49, R50). A reading served after the event that made the record SAMPLING is one
made after the start time, though the counter stand at the same value
(DESIGN CHOICE, notes/assumptions/35.md). -/
def takeSample (f : Face) (ss : List Strength) (s : State) : State :=
  let m := (s.face f).meas
  if m.status ≠ .sampling then s
  else
    let cfg := s.cfg f
    let m := m.sampled (judge cfg.cells cfg.params.strengthFloor (m.antenna.getD 0) ss)
    if m.run.length = Config.runSize then
      let m := withFront cfg (s.doorsOf m) (s.isolatedBay f) (m.run.sum / Config.runSize) m
      complete f (m.verdict.getD .onMark) m s
    else if Config.maxSamples ≤ m.samples then complete f .indeterminate (withoutFront m) s
    else modMeas f (fun _ => m) s

/-! ### The SURVEY decision (R90) -/

/-- The decision is made: SURVEY_DONE follows the action. -/
def surveyDone (f : Face) (row : Nat) (s : State) : State := post .surveyDone (some f) none [row] s

/-- Rows 4 to 6 of the decision, with the selection of R34. -/
def surveyTrain (f : Face) (s : State) : State :=
  match (s.face f).berth.present, (s.face f).berth.latest with
  | true, some b =>
    if b.moving then
      let s := enterArriving f s
      surveyDone f 5 (vacantAgain f (postMismatch f b.code.toNat b.train (select f b.code.toNat b.train s)))
    else
      surveyDone f 4 (enterMeasuring f (postMismatch f b.code.toNat b.train (select f b.code.toNat b.train s)))
  | _, _ => surveyDone f 6 (enterEmpty f s)

/-- Row 3 of the decision and those after it. -/
def surveySummary (f : Face) (s : State) : State :=
  if (s.face f).fault.summary then surveyDone f 3 (enterHeld f s) else surveyTrain f s

/-- Row 2 of the decision and those after it. SILENT is raised for the SILENT bays in ascending bay number, an
order that R90 names for row 1 alone (DESIGN CHOICE, notes/assumptions/12.md). -/
def surveySilent (f : Face) (s : State) : State :=
  let silent := ((s.face f).bays.filter (·.silent)).map (·.num)
  if silent.isEmpty then surveySummary f s
  else
    let s := raise f (silent.map fun n => (.silent, some n)) s
    if FlagSet.has (s.face f).fault.mask .silent then surveySummary f s
    else surveyDone f 2 (enterHeld f s)

/-- The SURVEY decision (R90). -/
def surveyDecision (f : Face) (s : State) : State :=
  let unlocked := s.unlockedBays f
  if unlocked.isEmpty then surveySilent f s
  else
    let s := raise f (unlocked.map fun n => (.lock, some n)) s
    if FlagSet.has (s.face f).fault.mask .lock then surveySilent f s
    else surveyDone f 1 (enterHeld f s)

/-- A poll of a bay made after the entry to SURVEY is complete (R89); the third of every bay decides. -/
def surveyPolled (f : Face) (n : Nat) (s : State) : State :=
  if s.stateOf f = .survey then
    let s := modBay f n (fun e => { e with surveyPolls := e.surveyPolls + 1 }) s
    if (s.face f).bays.all (fun e => decide (Config.surveyRounds ≤ e.surveyPolls)) then surveyDecision f s
    else s
  else s

/-! ### The dwell and the connection hold (R75, R76, R80) -/

/-- What a true expiry with the hold satisfied does (R76). -/
def satisfied (f : Face) (s : State) : State :=
  if (s.params f).autoClose = 1 then enterClosing f 1 s
  else
    modSeq f (fun r =>
      { r with
        substate := some .expired
        dwellDeadline := none
        hold := r.hold.map fun h => { h with capDeadline := none } }) s

/-- The hold is satisfied (R76): no record, or the accumulated time at least the minimum. -/
def FaceRecord.holdSatisfied (r : FaceRecord) : Bool :=
  r.hold.all fun h => decide (h.minimum * 1000 ≤ h.accumulated)

/-- A true expiry (R76, R80). At the entry to CONNECTION_WAIT the dwell deadline, which has passed, becomes absent
(DESIGN CHOICE, notes/assumptions/46.md). -/
def trueExpiry (f : Face) (s : State) : State :=
  let r := (s.face f).seq
  if r.holdSatisfied then satisfied f s
  else
    let s := modSeq f (fun r =>
      { r with
        substate := some .connectionWait
        dwellDeadline := none
        hold := r.hold.map fun h => { h with capDeadline := some (s.time + sec h.cap) } }) s
    post .connectionWait (some f) none
      [((r.hold.map (·.accumulated)).getD 0) / 1000, (r.hold.map (·.minimum)).getD 0] s

/-- The flow test at an expiry (R75). -/
def State.flowTest (s : State) (f : Face) : Bool :=
  let r := (s.face f).seq
  r.dwell.any (fun d => d.mode == 1)
    && (s.face f).sensing.lastPassage.any (fun t => decide (elapsed s.time t ≤ (s.params f).flowWindow * 1000))
    && decide (r.extensions < (s.params f).maxExtensions)

/-- A dwell expiry (R75, R76). -/
def dwellExpired (f : Face) (s : State) : State :=
  if s.flowTest f then
    let s := modSeq f (fun r =>
      { r with
        dwellDeadline := some (s.time + sec ((r.dwell.map (·.step)).getD 0))
        extensions := r.extensions + 1 }) s
    post .dwellExtended (some f) none [(s.face f).seq.extensions] s
  else trueExpiry f s

end Sys2Proof.Machine
end

