-- ==== Sys2Proof/Machine/Release.lean ====
section
/-!
DEFINITION. The Release Monitor: the causes (R124 to R128), entry to RELEASED (R129), the opening plan
(R131, R132), causes appearing while RELEASED (R133, R136) and the causes' going.
-/

namespace Sys2Proof.Machine

/-- The causes present (R123, R125). -/
def Release.has (r : Release) : Cause → Bool
  | .loop => r.loop
  | .handle => !r.pulled.isEmpty
  | .train => r.train
  | .fire => r.fire
  | .station => r.station

def allCauses : List Cause := [.loop, .handle, .train, .fire, .station]

/-- The causes present as a reply carries them: bit n − 1 for cause n (section 11.2). -/
def Release.causeBits (r : Release) : Nat :=
  bitsOf ((allCauses.filter r.has).map fun c => c.number - 1)

/-- A cause enters the causes present; HANDLE with its bay, into the pulled handles (R125). -/
def Release.add (r : Release) : Cause × Option Nat → Release
  | (.loop, _) => { r with loop := true }
  | (.train, _) => { r with train := true }
  | (.fire, _) => { r with fire := true }
  | (.station, _) => { r with station := true }
  | (.handle, some n) => { r with pulled := insertAsc n r.pulled }
  | (.handle, none) => r

/-- The causes that call for the evacuation opening (R131). -/
def Cause.evacuates : Cause → Bool
  | .fire => true
  | .station => true
  | .train => true
  | _ => false

/-- The evacuation opening (R131). -/
def evacuate (f : Face) (front : Nat) (s : State) : State :=
  let m := (s.face f).meas
  let set := m.readEvacuation
  let bays := set.filter fun n => !s.isolatedBay f n
  let s1 := issueAll f .openLeaf bays s
  let doors :=
    if bays.length = set.length then m.readEvacDoors
    else
      doorsMetBy (s.params f).minimumOverlap front (s.cfg f).bays (s.doorsOf m) bays
  let s2 := modBerth f (fun b => { b with doorList := doors }) s1
  modRelease f (fun r => { r with evacIssued := true, opened := bays }) s2

/-- The opening plan for causes that have just appeared (R131, R132). -/
def openingPlan (f : Face) (cs : List (Cause × Option Nat)) (s : State) : State :=
  match (s.face f).meas.readFront with
  | none => s
  | some front =>
    if cs.any (fun c => c.1.evacuates) && !(s.face f).release.evacIssued then evacuate f front s else s

/-- The first cause of an entry, the earliest in the order of R129. -/
def firstCause (cs : List (Cause × Option Nat)) : Option (Cause × Option Nat) :=
  [Cause.fire, .station, .train, .loop, .handle].findSome? fun c => cs.find? fun x => x.1 == c

/-- The bay that an event names for a cause: of HANDLE alone. -/
def causeBay (c : Option (Cause × Option Nat)) : Option Nat := c.bind (·.2)

/-- Entry to RELEASED (R129, R130) as causes appear together. -/
def enterReleased (f : Face) (cs : List (Cause × Option Nat)) (s : State) : State :=
  let left := s.stateOf f
  let first := firstCause cs
  -- 1. Release Record
  let s := modRelease f (fun r =>
    { cs.foldl Release.add r with
      phase := .holding
      first := first
      entryTime := some s.time
      evacIssued := false
      opened := []
      resetTime := none }) s
  let s := setState f .released s
  let s := post .releaseEntered (some f) (causeBay first)
    [(first.map fun c => c.1.number).getD 0, left.number] s
  -- 2. Face Record, 3. bay orders, 4. enable list
  let s := dropCloses f (stopSequence f .release s)
  let s := modBerth f (fun b => { b with doorList := [] }) s
  -- 5. fault, 6. opening plan
  openingPlan f cs (raise f [(.release, none)] s)

/-- A recovery close is broken off and the face returns to HOLDING (R136 steps 1 and 2). -/
def returnToHolding (f : Face) (s : State) : State :=
  if (s.face f).release.phase = .recovering then
    let s := dropCloses f (cutWarning f (endProcedure f s))
    modRelease f (fun r => { r with phase := .holding }) s
  else s

/-- A cause appears while the face is RELEASED (R133, R136). -/
def furtherCause (f : Face) (c : Cause × Option Nat) (s : State) : State :=
  let s := modRelease f (fun r => r.add c) (returnToHolding f s)
  openingPlan f [c] (post .releaseCause (some f) c.2 [c.1.number] s)

/-- Causes appear at a face (R129, R133): an OUT_OF_SERVICE face takes none (R123). -/
def appear (f : Face) (cs : List (Cause × Option Nat)) (s : State) : State :=
  match s.stateOf f with
  | .outOfService => s
  | .released => cs.foldl (fun s c => furtherCause f c s) s
  | _ => if cs.isEmpty then s else enterReleased f cs s

/-- A bay enrolled on the loop (R6). -/
def State.enrolled (s : State) (f : Face) (n : Nat) : Bool :=
  (s.cfg f).bays.any fun g => g.num == n && g.enrolled

/-- The LOOP cause goes when the loop reads closed and no enrolled bay is in the pulled handles (R124). -/
def loopGoes (f : Face) (s : State) : State :=
  if s.loopClosed f && (s.face f).release.pulled.all (fun n => !s.enrolled f n) then
    modRelease f (fun r => { r with loop := false }) s
  else s

/-- The handle field of a delivered report (R125). -/
def takeHandle (f : Face) (n : Nat) (pulled : Bool) (s : State) : State :=
  let held := (s.face f).release.pulled.contains n
  if pulled && !held then appear f [(.handle, some n)] s
  else if !pulled && held then
    loopGoes f (modRelease f (fun r => { r with pulled := r.pulled.erase n }) s)
  else s

/-- The loop's reading has changed (R124). Where the loop comes to read open again while LOOP still stands,
kept by an enrolled handle, LOOP does not appear a second time
(DESIGN CHOICE, notes/assumptions/38.md). -/
def loopChanged (f : Face) (s : State) : State :=
  if s.stateOf f = .outOfService then s
  else if s.loopClosed f then loopGoes f s
  else if (s.face f).release.loop then s
  else appear f [(.loop, none)] s

/-- The FIRE input's reading has changed, for one face (R126). -/
def fireChanged (f : Face) (s : State) : State :=
  if s.stateOf f = .outOfService then s
  else if s.fireActive then
    if (s.face f).release.fire then s else appear f [(.fire, none)] s
  else modRelease f (fun r => { r with fire := false }) s

/-- The EMERGENCY RELEASE value is offered to the Release Monitor (R23, R126). -/
def trainOffered (f : Face) (s : State) : State :=
  if s.stateOf f = .outOfService then s
  else if (s.face f).berth.emergencyOffered = some true then
    if (s.face f).release.train then s else appear f [(.train, none)] s
  else modRelease f (fun r => { r with train := false }) s

/-- The causes found at an entry into SURVEY from OUT_OF_SERVICE or by RESTART (R128). -/
def State.causesFound (s : State) (f : Face) : List (Cause × Option Nat) :=
  (if s.loopClosed f then [] else [(.loop, none)])
    ++ (if s.fireActive then [(.fire, none)] else [])
    ++ (if (s.face f).berth.emergencyOffered = some true then [(.train, none)] else [])

/-- A face is brought into SURVEY with its causes found afresh (R128). -/
def surveyAfresh (f : Face) (s : State) : State :=
  let s := enterSurvey f s
  appear f (s.causesFound f) s

end Sys2Proof.Machine
end

