-- ==== Sys2Proof/Machine/Delivery.lean ====
section
/-!
DEFINITION. A report answered on the Bay Bus and what it does: the answer itself (R98, R99, R101 to
R103), delivery to the Release Monitor, the Sensing Unit and the Face Sequencer (R105, R110, R113,
R114, R120, R63, R73, R81 to R85), and the end of polls and hits (R104, R107).
-/

namespace Sys2Proof.Machine

/-! ### Answers and misses -/

/-- An answer of the expected kind (R103): the miss count returns to 0, and a SILENT bay is cleared with
BAY_ANSWERING. -/
def answered (f : Face) (n : Nat) (s : State) : State :=
  match s.bay f n with
  | none => s
  | some e =>
    let s' := modBay f n (fun e => { e with miss := 0, silent := false }) s
    if e.silent then post .bayAnswering (some f) (some n) [e.miss] s' else s'

/-- A transaction missed twice is counted (R101), and marks the bay SILENT or raises SILENT again
(R102). An address with no configured bay counts nothing. -/
def countMiss (f : Face) (n : Nat) (s : State) : State :=
  match s.bay f n with
  | none => s
  | some e =>
    let miss := min Config.missLimit (e.miss + 1)
    let s := modBay f n (fun e => { e with miss := miss }) s
    if e.silent then raise f [(.silent, some n)] s
    else if Config.silentMisses ≤ miss then
      raise f [(.silent, some n)]
        (post .baySilent (some f) (some n) [] (modBay f n (fun e => { e with silent := true }) s))
    else s

/-! ### The Face Sequencer's part (R105 step 5) -/

/-- The states in which the Face Sequencer watches the locks (R63). -/
def FaceState.watchesLocks : FaceState → Bool
  | .empty => true
  | .arriving => true
  | .measuring => true
  | .berthed => true
  | .closedLocked => true
  | _ => false

/-- A bay of a running closing procedure that is locked enters LOCKED from any phase but LEFT (R81), with no
deadline any longer (DESIGN CHOICE, notes/assumptions/47.md). -/
def enterLocked (f : Face) (n : Nat) (s : State) : State :=
  modEntry f n (fun e =>
    if e.phase = .left then e
    else { e with phase := .locked, deadline := none, proving := false, travel := none }) s

/-- The leaf of a SENT bay is reported CLOSED: the open travel limit is met (R83), and the lock proof
deadline is set unless one has been set since the latest CLOSE order (R85). -/
def ClosingEntry.reportedClosed (lockProofEnd : Time) (e : ClosingEntry) : ClosingEntry :=
  if e.proving then { e with travel := none }
  else { e with deadline := some lockProofEnd, proving := true, travel := none }

/-- A report's lock, leaf and obstacle in a running closing procedure (R81, R83, R85). A report that shows
both the lock proven and an obstacle latched counts no retry
(DESIGN CHOICE, notes/assumptions/32.md). -/
def closingReport (f : Face) (n : Nat) (r : Report) (s : State) : State :=
  match s.phaseOf f n with
  | none => s
  | some p =>
    if (s.bay f n).any BayEntry.locked then finishClosing f (enterLocked f n s)
    else if p = .locked then orderClose f n s
    else if p = .sent then
      if r.obstacle then raised f (countRetry f n (pauseBay f n s))
      else if r.leaf = .closed then
        modEntry f n (ClosingEntry.reportedClosed (s.time + ms (s.params f).lockProof)) s
      else s
    else s

/-- The leaf, the lock and the obstacle go to the Face Sequencer. -/
def sequenceReport (f : Face) (n : Nat) (r : Report) (s : State) : State :=
  let s :=
    if (s.stateOf f).watchesLocks && !r.lock then raise f [(.lock, some n)] s else s
  closingReport f n r (checkOpened f s)

/-! ### The Sensing Unit's part (R105 step 4, R110) -/

/-- The Face Sequencer is told of a bay's new qualified gap state (R84, R113 step 5). -/
def gapInformed (f : Face) (n : Nat) (active : Bool) (s : State) : State :=
  match s.phaseOf f n with
  | some .sent => if active then raised f (gapTrip f n s) else s
  | some .gapWait => if active then s else orderClose f n s
  | _ => s

/-- The states in which a qualifier that becomes ACTIVE raises GAP (R114). -/
def FaceState.raisesGap : FaceState → Bool
  | .empty => true
  | .closedLocked => true
  | _ => false

/-- The gap part of a report (R110 step 1, R112, R113). -/
def takeGap (f : Face) (n : Nat) (r : Report) (s : State) : State :=
  match (s.bay f n).bind (·.gap) with
  | none => s
  | some q =>
    let x := q.take (s.params f).gapQualify r.gapActive r.count s.time
    let s := modBay f n (fun e => { e with gap := some x.1 }) s
    match x.2 with
    | none => s
    | some t =>
      let s := post (if x.1.active then .gapActive else .gapClear) (some f) (some n)
        [(t.toNat / 1000) % 65536] s
      let s := if x.1.active && (s.stateOf f).raisesGap then raise f [(.gap, some n)] s else s
      gapInformed f n x.1.active s

/-- The beam part of a report (R110 steps 2 and 3, R118, R120). -/
def takeBeams (f : Face) (n : Nat) (r : Report) (s : State) : State :=
  match (s.bay f n).bind (·.beams) with
  | none => s
  | some d =>
    let x := d.take (s.params f).pairingWindow s.time (s.face f).sensing.lastPassage r.events
    let s := modBay f n (fun e => { e with beams := some x.1 }) s
    let s := modSensing f (fun p => { p with lastPassage := x.2 }) s
    match s.phaseOf f n with
    | some .doorway => if x.1.brokenA || x.1.brokenB then s else raised f (closeOrTrip f n s)
    | _ => s

/-! ### Delivery (R105) -/

/-- The busy hold's release at an answered REPORT (R99). -/
def releaseBusy (f : Face) (n : Nat) (s : State) : State :=
  if (s.bay f n).any (·.busyHold) then
    moveUp f n (modBay f n (fun e => { e with busyHold := false }) s)
  else s

/-- An answered REPORT from a configured bay is delivered, in the six steps of R105. -/
def deliver (f : Face) (n : Nat) (r : Report) (s : State) : State :=
  if (s.bay f n).isNone then s
  else
    let s := answered f n s
    let s := modBay f n (fun e => { e with report := some (r, s.time) }) s
    let s := takeHandle f n r.pulled s
    let s := takeBeams f n r (takeGap f n r s)
    releaseBusy f n (sequenceReport f n r s)

/-! ### The ends of transactions -/

/-- A poll is complete (R104). -/
def pollComplete (f : Face) (n : Nat) (inSurvey : Bool) (s : State) : State :=
  let s := modBus f (fun b => { b with cursor := nextBay (s.face f).bays n, polls := b.polls + 1 }) s
  if inSurvey then surveyPolled f n s else s

/-- The end of a hit (R107): with attention yes a query follows at once. -/
def endHit (f : Face) (attention : Bool) (s : State) : State :=
  modBus f (fun b => { b with search := .idle, queryNext := attention }) s

/-- The outstanding transaction is a poll made after the face's entry to SURVEY (R89). -/
def Bus.pollInSurvey (b : Bus) : Bool :=
  match b.outstanding with
  | some ⟨.poll _ inSurvey, _, _⟩ => inSurvey
  | _ => false

/-- A report taken in answer to a transaction, and the end that its kind gives it: the report is delivered
first, and the poll is complete after it (DESIGN CHOICE, notes/assumptions/33.md). An entry to SURVEY
that the delivery makes comes after the poll. -/
def reportTaken (f : Face) (k : TransKind) (r : Report) (s : State) : State :=
  match k with
  | .poll n _ =>
    let s := deliver f n r s
    pollComplete f n (s.face f).bus.pollInSurvey s
  | .hit n => endHit f r.attention (deliver f n r s)
  | .followUp n => deliver f n r s
  | _ => s

/-- A closing entry is looked at again after a SILENT bay has answered an order (R63, R81). -/
def recheckLocked (f : Face) (n : Nat) (s : State) : State :=
  if (s.phaseOf f n).isSome && (s.bay f n).any BayEntry.locked then finishClosing f (enterLocked f n s) else s

/-- ACK to an order (R98). -/
def orderTaken (f : Face) (n : Nat) (s : State) : State :=
  moveUp f n (modBay f n (fun e => { e with inFlight := none }) s)

/-- BUSY to an order (R98); a CLOSE is dropped in the HOLDING phase (R133). -/
def orderBusy (f : Face) (n : Nat) (o : BayOrder) (s : State) : State :=
  let drop := o == .closeLeaf && (s.face f).release.phase == .holding
  placeFollowUp f n
    (modBay f n (fun e =>
      { e with
        inFlight := none
        busyHold := true
        waiting := if e.waiting.isNone && !drop then some o else e.waiting }) s)

/-- An order missed twice, or a CLOSE missed once in HOLDING, is dropped (R101). -/
def orderMissed (f : Face) (n : Nat) (s : State) : State :=
  let s := modBay f n (fun e => { e with inFlight := none }) s
  if (s.bay f n).any (·.busyHold) then s else moveUp f n s

/-- A missed transaction has ended by its kind (R101). -/
def missedEnd (f : Face) (k : TransKind) (s : State) : State :=
  match k with
  | .order n _ => orderMissed f n (countMiss f n s)
  | .poll n inSurvey => pollComplete f n inSurvey (countMiss f n s)
  | .followUp n => countMiss f n s
  | .hit n => endHit f false (countMiss f n s)
  | .query _ _ => s
  | .groupClose => s
  | .groupWarn _ => s

end Sys2Proof.Machine
end

