-- ==== Sys2Proof/Machine/BusEvents.lean ====
section
/-!
DEFINITION. The events of a Bay Bus: a turn, the answers, a window that closes without one and the wired
bit of an attention query (R91, R96, R98, R101, R105 to R108). An answer that fits no outstanding
transaction, that begins after its window, or that is no answer by R171, has no effect.
-/

namespace Sys2Proof.Machine

def execTurn (f : Face) (s : State) : Host.Outcome State Fault Refusal := .next (beginTurn f s)

/-- The outstanding transaction has ended: the master goes on, and the event ends. -/
def transactionOver (f : Face) (s : State) : State := settle (busContinue f (endTransaction f s))

/-- The transaction whose answer window stands open now (R91): a frame that begins later is ignored. -/
def State.windowOpen (s : State) (f : Face) : Option Trans :=
  (s.face f).bus.outstanding.filter fun t => !laterThan s.time t.windowEnd

/-- The address whose REPORT a transaction awaits. -/
def TransKind.reportFrom : TransKind → Option Nat
  | .followUp n => some n
  | .poll n _ => some n
  | .hit n => some n
  | _ => none

/-- The report that an answer carries for the outstanding transaction. -/
def State.reportAwaited (s : State) (f : Face) (bs : List Byte) : Option (TransKind × Report) :=
  match s.windowOpen f with
  | none => none
  | some t => (t.kind.reportFrom.bind fun n => reportOf n bs).map fun r => (t.kind, r)

def takeReport (f : Face) (bs : List Byte) (s : State) : State :=
  match s.reportAwaited f bs with
  | none => s
  | some x => transactionOver f (reportTaken f x.1 x.2 s)

def execReportAnswer (f : Face) (bs : List Byte) (s : State) : Host.Outcome State Fault Refusal :=
  .next (takeReport f bs s)

/-- The order whose transaction a short answer of the type `t` answers. -/
def State.orderAwaited (s : State) (f : Face) (t : Byte) (bs : List Byte) : Option (Nat × BayOrder) :=
  match s.windowOpen f with
  | some ⟨.order n o, _, _⟩ => if isShortAnswer t n bs then some (n, o) else none
  | _ => none

/-- ACK to an order (R98, R103). The slots are served before a bay that was SILENT, and is locked now that it
has answered, enters LOCKED (DESIGN CHOICE, notes/assumptions/43.md). -/
def takeAck (f : Face) (bs : List Byte) (s : State) : State :=
  match s.orderAwaited f 0xD1#8 bs with
  | none => s
  | some x => transactionOver f (recheckLocked f x.1 (orderTaken f x.1 (answered f x.1 s)))

def execAck (f : Face) (bs : List Byte) (s : State) : Host.Outcome State Fault Refusal := .next (takeAck f bs s)

/-- BUSY to an order (R98, R103), the slots before LOCKED as at an ACK
(DESIGN CHOICE, notes/assumptions/43.md). -/
def takeBusy (f : Face) (bs : List Byte) (s : State) : State :=
  match s.orderAwaited f 0xD2#8 bs with
  | none => s
  | some x => transactionOver f (recheckLocked f x.1 (orderBusy f x.1 x.2 (answered f x.1 s)))

def execBusy (f : Face) (bs : List Byte) (s : State) : Host.Outcome State Fault Refusal :=
  .next (takeBusy f bs s)

/-- A missed transaction that R101 does not repeat: a CLOSE while the release phase is HOLDING. -/
def State.notRepeated (s : State) (f : Face) : TransKind → Option Nat
  | .order n .closeLeaf => if (s.face f).release.phase = .holding then some n else none
  | _ => none

/-- A group order's transaction, whose window awaits no answer (R100). -/
def TransKind.isGroup : TransKind → Bool
  | .groupClose => true
  | .groupWarn _ => true
  | _ => false

/-- A window has closed without an answer: a group order's transaction ends (R91, R100), and a unicast
one is missed (R101). -/
def missed (f : Face) (t : Trans) (s : State) : State :=
  if t.kind.isGroup then transactionOver f s
  else if t.repeated then transactionOver f (missedEnd f t.kind s)
  else
    match s.notRepeated f t.kind with
    | some n => transactionOver f (orderMissed f n s)
    | none => start f t.kind true s

def TransKind.isQuery : TransKind → Bool
  | .query _ _ => true
  | _ => false

def windowCloses (f : Face) (s : State) : State :=
  match (s.face f).bus.outstanding with
  | none => s
  | some t => if t.kind.isQuery then s else missed f t (advanceTo t.windowEnd s)

def execAnswerWindowClosed (f : Face) (s : State) : Host.Outcome State Fault Refusal :=
  .next (windowCloses f s)

/-- The wired bit is read as the window of an attention query closes (R92, R106 to R108). -/
def queryAnswered (f : Face) (pulled : Bool) (s : State) : State :=
  match (s.face f).bus.outstanding with
  | none => s
  | some t =>
    if t.kind.isQuery then
      transactionOver f
        (modBus f (fun b => { b with search := searchAfter b.search pulled }) (advanceTo t.windowEnd s))
    else s

def execAttentionQueryAnswer (f : Face) (pulled : Bool) (s : State) : Host.Outcome State Fault Refusal :=
  .next (queryAnswered f pulled s)

end Sys2Proof.Machine
end

