-- ==== Sys2Proof/Machine/Store.lean ====
section
/-!
DEFINITION. The Configuration Store: the records of a load and their arrival checks (R5 to R12), the
checks at LOAD END (R13 to R15), and what a load, its end, its abandonment and RESTART make of the
faces (R3, R4, R16 to R18, R19, R37, R62, R95, R109, R123, R138, R157).
-/

namespace Sys2Proof.Machine

/-! ### The outcome of a record -/

/-- The reasons of a LOAD_ERROR to LOAD RECORD (R5), in the order section 11.2 numbers them from 1. -/
inductive LoadReason where
  | range
  | tableFull
  | sequence
  deriving DecidableEq, Repr

def LoadReason.number : LoadReason → Nat
  | .range => 1
  | .tableFull => 2
  | .sequence => 3

/-- How the examination of a record ends (R5). -/
inductive RecordResult where
  | badFace
  | error (reason : LoadReason) (field door : Nat)
  | stored (store : Store)
  /-- The stored value differs from the value sent (R12); `width` is its width in a reply. -/
  | clamped (store : Store) (value width : Nat)
  deriving DecidableEq, Repr

/-- A record put into a collection in ascending key, in place of one with the same key (R1, R5). -/
def putKeyed {α : Type} (key : α → Nat) (x : α) : List α → List α
  | [] => [x]
  | y :: ys =>
    if key x < key y then x :: y :: ys
    else if key x = key y then x :: ys
    else y :: putKeyed key x ys

/-- A change of one face's collections. -/
def Store.modCfg (st : Store) (f : Face) (g : FaceConfig → FaceConfig) : Store :=
  { st with cfg := st.cfg.set f (g (st.cfg.get f)) }

/-- A number within bounds. -/
def within (lo hi n : Nat) : Bool := decide (lo ≤ n ∧ n ≤ hi)

/-! ### Records; `p` is the payload, from its record kind byte -/

/-- A BAY record (R6): face, bay, L (4), U (4), fittings. Bits 3 to 7 of the fittings byte are not examined and
not kept (DESIGN CHOICE, notes/assumptions/21.md). -/
def bayRecord (st : Store) (p : List Byte) : RecordResult :=
  match faceOfByte (p.getD 1 0xFF#8) with
  | none => .badFace
  | some f =>
    let n := byteAt p 2
    let l := numAt p 3 4
    let u := numAt p 7 4
    let fit := p.getD 11 0#8
    if ¬ n ≤ 31 then .error .range 2 0
    else if ¬ l ≤ Config.maxPosition then .error .range 3 0
    else if ¬ (u ≤ Config.maxPosition ∧ l + 1200 ≤ u ∧ u ≤ l + 4000) then .error .range 4 0
    else
      .stored (st.modCfg f fun c =>
        { c with
          bays := putKeyed BayGeometry.num
            ⟨n, l, u, fit.getLsbD 0, fit.getLsbD 1, fit.getLsbD 2⟩ c.bays })

/-- A CELL record (R7): face, cell index, centre (4). -/
def cellRecord (st : Store) (p : List Byte) : RecordResult :=
  match faceOfByte (p.getD 1 0xFF#8) with
  | none => .badFace
  | some f =>
    let i := byteAt p 2
    let c := numAt p 3 4
    if ¬ i ≤ 11 then .error .range 2 0
    else if ¬ c ≤ Config.maxPosition then .error .range 3 0
    else .stored (st.modCfg f fun k => { k with cells := putKeyed Cell.index ⟨i, c⟩ k.cells })

/-- Door entries, six bytes each: d (4) and w (2). -/
def doorEntries : List Byte → List Door
  | a :: b :: c :: d :: e :: g :: rest => ⟨ofBytes [a, b, c, d], ofBytes [e, g]⟩ :: doorEntries rest
  | _ => []

/-- The number of the first door entry out of range, the first entry being door `k` (R8). -/
def badDoor (k : Nat) : List Door → Option Nat
  | [] => none
  | d :: ds => if d.offset ≤ 240000 ∧ within 900 2000 d.width then badDoor (k + 1) ds else some k

/-- The check of door entries on field 6: ranges, then the door count (R8, R9). -/
def doorFault (first count : Nat) (ds : List Door) : Option Nat :=
  match badDoor first ds with
  | some k => some k
  | none => if count < first - 1 + ds.length then some (count + 1) else none

/-- A CONSIST first part (R8): code, first door 1, train length (4), antenna offset (2), door count,
entries. -/
def firstPart (st : Store) (p : List Byte) : RecordResult :=
  let code := byteAt p 1
  let len := numAt p 3 4
  let antenna := numAt p 7 2
  let count := byteAt p 9
  let ds := doorEntries (p.drop 10)
  if ¬ within 1 254 code then .error .range 1 0
  else if ¬ within 20000 240000 len then .error .range 3 0
  else if ¬ antenna ≤ 20000 then .error .range 4 0
  else if ¬ within 1 48 count then .error .range 5 0
  else
    match doorFault 1 count ds with
    | some k => .error .range 6 k
    | none =>
      if st.consists.any (fun c => c.code == code) || decide (st.consists.length < 16) then
        .stored { st with consists := putKeyed Consist.code ⟨code, len, antenna, count, ds⟩ st.consists }
      else .error .tableFull 1 0

/-- A CONSIST continuation (R9): code, first door, entries. -/
def continuation (st : Store) (p : List Byte) : RecordResult :=
  let code := byteAt p 1
  let first := byteAt p 2
  let ds := doorEntries (p.drop 3)
  if ¬ within 2 48 first then .error .range 2 0
  else
    match st.consists.find? (fun c => c.code = code) with
    | none => .error .sequence 2 0
    | some c =>
      if first ≠ c.doors.length + 1 then .error .sequence 2 0
      else
        match doorFault first c.doorCount ds with
        | some k => .error .range 6 k
        | none =>
          .stored { st with consists := putKeyed Consist.code { c with doors := c.doors ++ ds } st.consists }

/-- A STOP record (R10): face, code, M (4), T (2). -/
def stopRecord (st : Store) (p : List Byte) : RecordResult :=
  match faceOfByte (p.getD 1 0xFF#8) with
  | none => .badFace
  | some f =>
    let code := byteAt p 2
    let m := numAt p 3 4
    let t := numAt p 7 2
    if ¬ within 1 254 code then .error .range 2 0
    else if ¬ m ≤ Config.maxPosition then .error .range 3 0
    else if ¬ (t = 0 ∨ within 50 500 t) then .error .range 4 0
    else
      let stops := (st.cfg.get f).stops
      if stops.any (fun x => x.code == code) || decide (stops.length < 16) then
        .stored (st.modCfg f fun c =>
          { c with stops := putKeyed StopMark.code ⟨code, m, if t = 0 then 300 else t⟩ c.stops })
      else .error .tableFull 2 0

/-- The reply width of a number whose range ends at `hi` (section 11.2). -/
def widthFor (hi : Nat) : Nat := if hi ≤ 255 then 1 else if hi ≤ 65535 then 2 else 4

/-- The face parameters after a PARAM record of a face, for a parameter of R11's table but FIRE sense. -/
def faceParam (st : Store) (f : Face) (n v : Nat) : RecordResult :=
  if n = maskParam then
    let sent := flagsOfByte v
    let st := st.modCfg f fun c => { c with params := { c.params with defaultMask := maskable sent } }
    if maskable sent = sent then .stored st else .clamped st (maskable sent).toNat 1
  else
    match paramRange n with
    | none => .error .range 2 0
    | some (lo, hi) =>
      let w := clampTo lo hi v
      let st := st.modCfg f fun c => { c with params := c.params.write n w }
      if w = v then .stored st else .clamped st w (widthFor hi)

/-- A PARAM record (R12): face, parameter, value (4); a face byte of 0xFF names the platform (R172), and one that
names neither a face nor the platform is refused with BAD_FACE (DESIGN CHOICE, notes/assumptions/21.md). -/
def paramRecord (st : Store) (p : List Byte) : RecordResult :=
  let fb := p.getD 1 0xFF#8
  let n := byteAt p 2
  let v := numAt p 3 4
  match faceOfByte fb with
  | some f => if n = fireSenseParam then .error .range 2 0 else faceParam st f n v
  | none =>
    if fb ≠ 0xFF#8 then .badFace
    else if n ≠ fireSenseParam then .error .range 2 0
    else
      let w := clampTo 0 1 v
      let st := { st with fireSense := w }
      if w = v then .stored st else .clamped st w 1

/-- A LOAD RECORD whose length fits (R172), by the record kind in its first byte. -/
def examineRecord (st : Store) (p : List Byte) : RecordResult :=
  match byteAt p 0 with
  | 1 => bayRecord st p
  | 2 => cellRecord st p
  | 3 => if byteAt p 2 = 1 then firstPart st p else continuation st p
  | 4 => stopRecord st p
  | 5 => paramRecord st p
  | _ => .error .range 0 0

/-- A length less `base` is a multiple of 6 from 6 to 144. -/
def entriesFit (base len : Nat) : Bool := decide (base + 6 ≤ len ∧ len ≤ base + 144 ∧ (len - base) % 6 = 0)

/-- The length check of a LOAD RECORD (R172). -/
def recordLengthOk (p : List Byte) : Bool :=
  match p with
  | [] => false
  | k :: _ =>
    match k.toNat with
    | 1 => p.length == 12
    | 2 => p.length == 7
    | 3 => if byteAt p 2 = 1 then entriesFit 10 p.length else entriesFit 3 p.length
    | 4 => p.length == 9
    | 5 => p.length == 7
    | _ => true

/-! ### LOAD END's checks (R13 to R15) -/

/-- A failed check as section 11.2 reports it: check number, record kind, face, and the two key parts. -/
structure LoadFail where
  check : Nat
  kind  : Nat
  face  : Option Face
  key   : Option Nat
  door  : Option Nat
  deriving DecidableEq, Repr

/-- The first door, from door `k`, whose offset is not greater than that of the door before (check 2). -/
def notAscending (k : Nat) : List Door → Option Nat
  | d :: e :: ds => if d.offset < e.offset then notAscending (k + 1) (e :: ds) else some (k + 1)
  | _ => none

/-- The first door, from door `k`, that ends beyond the train (check 3). -/
def beyondTrain (len k : Nat) : List Door → Option Nat
  | [] => none
  | d :: ds => if d.offset + d.width ≤ len then beyondTrain len (k + 1) ds else some k

/-- Checks 1 to 3 of one consist. -/
def consistFail (c : Consist) : Option LoadFail :=
  if c.doors.length < c.doorCount then some ⟨1, 3, none, some c.code, none⟩
  else
    match notAscending 1 c.doors with
    | some k => some ⟨2, 3, none, some c.code, some k⟩
    | none => (beyondTrain c.length 1 c.doors).map fun k => ⟨3, 3, none, some c.code, some k⟩

/-- Check 4 on one face. -/
def stopFail (st : Store) (f : Face) : Option LoadFail :=
  ((st.cfg.get f).stops.find? fun m => !st.consists.any fun c => c.code == m.code).map fun m =>
    ⟨4, 4, some f, some m.code, none⟩

/-- The platform checks (orders 1 to 4). -/
def platformFail (st : Store) : Option LoadFail :=
  match st.consists.findSome? consistFail with
  | some x => some x
  | none => (stopFail st .a).orElse fun _ => stopFail st .b

/-- Check 6: the first bay, after the first, that stands too near the bay before. -/
def baySpacing : List BayGeometry → Option Nat
  | g :: h :: gs => if g.right + 200 ≤ h.left then baySpacing (h :: gs) else some h.num
  | _ => none

/-- Check 7: the lowest missing index, where the indices do not run contiguously from `i`. -/
def cellsGap (i : Nat) : List Cell → Option Nat
  | [] => none
  | c :: cs => if c.index = i then cellsGap (i + 1) cs else some i

/-- Check 9: the first cell whose spacing from the cell below lies outside 500 to 3,000 mm. -/
def cellSpacing : List Cell → Option Nat
  | c :: d :: cs =>
    if c.centre + 500 ≤ d.centre ∧ d.centre ≤ c.centre + 3000 then cellSpacing (d :: cs) else some d.index
  | _ => none

/-- The face checks of a face, in order (5 to 9, for face B 10 to 14). -/
def faceFail (st : Store) (f : Face) : Option LoadFail :=
  let c := st.cfg.get f
  let base := match f with | .a => 5 | .b => 10
  if c.bays.isEmpty then some ⟨base, 1, some f, none, none⟩
  else
    match baySpacing c.bays with
    | some n => some ⟨base + 1, 1, some f, some n, none⟩
    | none =>
      match cellsGap 0 c.cells with
      | some i => some ⟨base + 2, 2, some f, some i, none⟩
      | none =>
        if c.cells.length < 4 then some ⟨base + 3, 2, some f, none, none⟩
        else (cellSpacing c.cells).map fun i => ⟨base + 4, 2, some f, some i, none⟩

/-- A face is unloaded: no bay record and no cell record (R15). -/
def unloaded (st : Store) (f : Face) : Bool :=
  (st.cfg.get f).bays.isEmpty && (st.cfg.get f).cells.isEmpty

/-- How LOAD END comes out: a failed check, or the faces brought into service (R14, R15). -/
def loadOutcome (st : Store) (early : Bool) : LoadFail ⊕ PerFace Bool :=
  match platformFail st with
  | some x => .inl x
  | none =>
    match faceFail st .a, faceFail st .b with
    | none, none => .inr ⟨true, true⟩
    | none, some y => if early then .inr ⟨true, false⟩ else .inl y
    | some x, none => if early then .inr ⟨false, true⟩ else .inl x
    | some x, some y =>
      if early && unloaded st .a && !unloaded st .b then .inl y else .inl x

/-! ### Faces taken out of service and brought in -/

/-- A Bay Table entry as a load builds it (R16, R95, R109). -/
def newEntry (g : BayGeometry) : BayEntry :=
  { num := g.num
    gap := if g.gap then some {} else none
    beams := if g.beams then some {} else none }

/-- The master's state when its polling begins (R95); what it has sent stands. -/
def freshBus (cursor : Option Nat) (b : Bus) : Bus := { out := b.out, cursor := cursor }

/-- The working dwell values of the configuration (R62). -/
def Params.dwellValues (p : Params) : DwellValues := ⟨p.dwellBase, p.dwellMode, p.extensionStep⟩

/-- A face's working state after an accepted LOAD BEGIN (R4, R19): link presence and the latest beacon
are kept, the filters and the lines stand. -/
def FaceBlock.afterLoadBegin (b : FaceBlock) : FaceBlock :=
  { enable := b.enable
    loop := b.loop
    permit := b.permit
    bus := freshBus none b.bus
    berth :=
      { present := b.berth.present
        lastGood := b.berth.lastGood
        latest := b.berth.latest
        answer := b.berth.answer } }

/-- An accepted LOAD BEGIN at one face: a pending order lapses and the face enters OUT_OF_SERVICE. -/
def outOfService (f : Face) (s : State) : State := modFace f FaceBlock.afterLoadBegin (lapse f s)

/-- An accepted LOAD BEGIN (R3, R4). Face A's events come before face B's, an order that R168 leaves open
(DESIGN CHOICE, notes/assumptions/12.md). -/
def beginLoad (s : State) : State :=
  let s := outOfService .b (outOfService .a s)
  modStore (fun st => { load := .loading, broughtIn := st.broughtIn }) s

/-- LOAD ABANDON, and RESTART while a load is open (R17, R18). -/
def abandonLoad (st : Store) : Store := { broughtIn := st.broughtIn }

/-- A face brought into service (R16) enters SURVEY with its causes found afresh (R128). -/
def bringIn (f : Face) (s : State) : State :=
  let cfg := s.cfg f
  let s := modFace f (fun b =>
    { b with
      bays := cfg.bays.map newEntry
      bus := freshBus (cfg.bays.head?.map (·.num)) b.bus
      sensing := {}
      fault := { mask := cfg.params.defaultMask }
      seq := { b.seq with dwell := some cfg.params.dwellValues, override := false } }) s
  endTurn f (surveyAfresh f s)

/-- A face left out loses its records (R15). -/
def leaveOut (f : Face) (st : Store) : Store := st.modCfg f fun _ => {}

/-- A successful LOAD END (R16): the configuration is in force, LOAD_DONE is posted, and the passing
faces are brought into service, face A before face B, an order that R168 leaves open
(DESIGN CHOICE, notes/assumptions/12.md). -/
def completeLoad (pass : PerFace Bool) (s : State) : State :=
  let s := modStore (fun st =>
    let st := if pass.a then st else leaveOut .a st
    let st := if pass.b then st else leaveOut .b st
    { st with valid := true, load := .idle, broughtIn := pass }) s
  let s := post .loadDone none none [yesNo pass.a, yesNo pass.b] s
  let s := if pass.a then bringIn .a s else s
  if pass.b then bringIn .b s else s

/-! ### RESTART (R18, R167) -/

/-- A bay entry after RESTART (R16, R95, R109, R164): isolation and the fittings stay. -/
def BayEntry.afterRestart (e : BayEntry) : BayEntry :=
  { num := e.num
    isolated := e.isolated
    gap := e.gap.map fun _ => {}
    beams := e.beams.map fun _ => {} }

/-- A face's block after RESTART: the state, the ids accepted since arrival, the filters and the bay
entries with their isolation marks stay (R18, R19, R37, R62, R95, R109, R123, R138, R157). -/
def FaceBlock.afterRestart (inService : Bool) (p : Params) (b : FaceBlock) : FaceBlock :=
  { enable := b.enable
    loop := b.loop
    bays := b.bays.map BayEntry.afterRestart
    bus := freshBus (b.bays.head?.map (·.num)) b.bus
    fault := { mask := if inService then p.defaultMask else 0#7 }
    berth := { answer := b.berth.answer }
    seq :=
      { state := b.seq.state
        acceptedIds := b.seq.acceptedIds
        dwell := if inService then some p.dwellValues else none } }

/-- RESTART at one face: a face in service re-enters SURVEY. -/
def restartFace (f : Face) (s : State) : State :=
  let inService := s.stateOf f != .outOfService
  let s := modFace f (FaceBlock.afterRestart inService (s.params f)) s
  if inService then endTurn f (surveyAfresh f s) else s

/-- The reset of RESTART (R167 step 2). A frame being gathered goes on being gathered; the time counter
and the discard count are kept. The Event Queue is emptied first, so that the records of a release found at
the entry into SURVEY (R128) stand in it afterwards (DESIGN CHOICE, notes/assumptions/40.md). Face A's events
come before face B's, an order that R168 leaves open (DESIGN CHOICE, notes/assumptions/12.md). -/
def resetWorking (s : State) : State :=
  let s :=
    { s with
      store := if s.store.load = .loading then abandonLoad s.store else s.store
      serving := none
      waitingFor := none
      events := []
      batch := []
      overrun := false }
  restartFace .b (restartFace .a s)

end Sys2Proof.Machine
end

