-- ==== Sys2Proof/Machine/Replies.lean ====
section
/-!
DEFINITION. Replies of the Station Link: the status codes and the header (R160, R161, section 11.2), the
encoding of the values that replies carry, the service of a request from the receive buffer (R159), and
the examination that every request goes through (R2, R161).
-/

namespace Sys2Proof.Machine

/-! ### Status and reply -/

/-- The reply statuses (R160, R161), in the order section 11.2 numbers them. -/
inductive Status where
  | done
  | doneClamped
  | unknownKind
  | badLength
  | badFace
  | badBay
  | badId
  | noConfig
  | loading
  | loadError
  | state
  | orderPending
  | noSuchOrder
  | tooLate
  | holdLoop
  | causePresent
  | faultPresent
  deriving DecidableEq, Repr

def Status.number : Status → Nat
  | .done => 0x00
  | .doneClamped => 0x01
  | .unknownKind => 0x10
  | .badLength => 0x11
  | .badFace => 0x12
  | .badBay => 0x13
  | .badId => 0x14
  | .noConfig => 0x15
  | .loading => 0x16
  | .loadError => 0x17
  | .state => 0x18
  | .orderPending => 0x19
  | .noSuchOrder => 0x1A
  | .tooLate => 0x1B
  | .holdLoop => 0x1C
  | .causePresent => 0x1D
  | .faultPresent => 0x1E

/-- A reply: its status and its own fields, from offset 3. -/
structure Reply where
  status : Status
  fields : List Byte
  deriving DecidableEq, Repr

/-- What carrying out a request does: the state after its effects, and its reply. -/
abbrev Body := State → State × Reply

/-- A refusal: no state changes (R160). -/
def refuse (st : Status) : Body := fun s => (s, ⟨st, []⟩)

/-- DONE, with fields and no change of state. -/
def answer (fields : State → List Byte) : Body := fun s => (s, ⟨.done, fields s⟩)

/-- A Station Link frame (R158, section 11.2). -/
def stationFrame (kind tag : Byte) (payload : List Byte) : List Byte :=
  0xA5#8 :: withCheck16 ([BitVec.ofNat 8 payload.length, kind, tag] ++ payload)

/-- The payload of a reply built now: the header of R160, then the reply's own fields. -/
def State.replyPayload (s : State) (r : Reply) : List Byte :=
  be1 r.status.number ++ be1 s.events.length ++ be1 (yesNo s.dropped + 2 * yesNo s.overrun) ++ r.fields

/-- A reply is built and sent; the flags it reports are cleared (R160). -/
def sendReply (fr : Frame) (r : Reply) (s : State) : State :=
  { s with
    stationOut := s.stationOut ++ [stationFrame fr.kind fr.tag (s.replyPayload r)]
    dropped := false
    overrun := false }

/-! ### The receive buffer (R159) -/

/-- A good frame enters the receive buffer, or is discarded with DROPPED set while it holds two. -/
def enterBuffer (fr : Frame) (s : State) : State :=
  if s.rx.length < Config.bufferSize then { s with rx := s.rx ++ [fr] } else { s with dropped := true }

/-- The frame served leaves the buffer. -/
def leaveBuffer (s : State) : State := { s with rx := s.rx.drop 1 }

/-- A request can be served now: no older frame is held ahead of it (R159). -/
def State.atFront (s : State) (fr : Frame) : Bool := s.rx.head?.all (· == fr)

/-- The service of a request (R159): its body is carried out, its reply built, and its frame leaves the
buffer. A request that is not the oldest frame held is a good frame that has just been completed
(DESIGN CHOICE, notes/assumptions/6.md). -/
def serve (fr : Frame) (body : Body) (s : State) : State :=
  if s.atFront fr then
    let x := body s
    leaveBuffer (sendReply fr x.2 x.1)
  else enterBuffer fr s

/-! ### The examination (R161) -/

/-- Step 2: the payload length. -/
def needLength (ok : Bool) (k : Body) : Body := if ok then k else refuse .badLength

/-- Step 3: the face field, the payload's first byte. -/
def needFace (p : List Byte) (k : Face → Body) : Body :=
  match faceOfByte (p.getD 0 0xFF#8) with
  | some f => k f
  | none => refuse .badFace

/-- Step 4: a request that needs configuration (R2). -/
def needConfig (k : Body) : Body := fun s =>
  if s.store.load = .loading then refuse .loading s
  else if s.store.valid then k s
  else refuse .noConfig s

/-- Step 5: the bay field of ISOLATE BAY and RESTORE BAY. -/
def needBay (f : Face) (n : Nat) (k : Body) : Body := fun s =>
  if (s.bay f n).isSome then k s else refuse .badBay s

/-- A request with a fixed length, a face and a need of configuration. -/
def faceRequest (len : Nat) (p : List Byte) (k : Face → Body) : Body :=
  needLength (p.length == len) (needFace p fun f => needConfig (k f))

/-! ### Values in replies (section 11.2): absent values are all-ones in their width -/

def opt1 : Option Nat → List Byte
  | some n => be1 n
  | none => [0xFF#8]

def opt2 : Option Nat → List Byte
  | some n => be2 n
  | none => [0xFF#8, 0xFF#8]

def opt4 : Option Nat → List Byte
  | some n => be4 n
  | none => [0xFF#8, 0xFF#8, 0xFF#8, 0xFF#8]

def bool1 (b : Bool) : List Byte := be1 (yesNo b)

def time4 (t : Time) : List Byte := be4 t.toNat

def optTime (t : Option Time) : List Byte := opt4 (t.map BitVec.toNat)

/-- A signed number in two's complement (E of a Measurement Record). -/
def optSigned : Option Int → List Byte
  | some e => be4 (BitVec.ofInt 32 e).toNat
  | none => opt4 none

/-- The time remaining to a deadline; 0 once it has passed. -/
def remaining (now : Time) (d : Option Time) : Option Nat :=
  d.map fun d => if due now d then 0 else elapsed d now

/-- A set of bays: bit n of four bytes for bay n. -/
def bayBits (ns : List Nat) : List Byte := be4 (bitsOf ns)

/-- A set of order ids: bit b of byte j for id 8j + b. -/
def idBits (ids : List Nat) : List Byte :=
  (List.range 32).map fun j =>
    BitVec.ofNat 8 (bitsOf ((ids.filter fun i => i / 8 = j).map (· % 8)))

/-- A list: its number of entries, then the entries. -/
def counted (n : Nat) (bs : List Byte) : List Byte := be1 (min 255 n) ++ bs

/-- An expectation: code and train number (R35). -/
def expectationBytes (x : Option Expectation) : List Byte :=
  opt1 (x.map (·.code)) ++ opt2 ((x.bind (·.train)).map BitVec.toNat)

/-- A connection hold record: minimum, cap, accumulated time, counting start and cap deadline (R62); the
deadline as `cap` gives it. -/
def holdBytes (cap : Option Time → Option Nat) (h : Option HoldRecord) : List Byte :=
  opt1 (h.map (·.minimum)) ++ opt2 (h.map (·.cap)) ++ opt4 (h.map (·.accumulated))
    ++ optTime (h.bind (·.countingStart)) ++ opt4 (cap (h.bind (·.capDeadline)))

/-- An event record's 14 bytes (R172). -/
def eventBytes (x : EventRecord) : List Byte :=
  be1 x.kind.number ++ opt1 (x.face.map faceNumber) ++ opt1 x.bay ++ time4 x.time
    ++ be1 x.details.length
    ++ ([0, 1, 2].map fun i => x.details.getD i 0).flatMap be2

/-! ### STATUS FACE (R163) -/

/-- The Face Record's items (R62), the closing list and the survey polls left to STATUS BAYS, and the
other face's hold record, which names this face. -/
def State.recordBytes (s : State) (f : Face) : List Byte :=
  let r := (s.face f).seq
  be1 r.state.number ++ opt1 (r.substate.map OpenSub.number) ++ opt1 (r.slot.map BitVec.toNat)
    ++ opt1 (r.lastAccepted.map BitVec.toNat) ++ idBits r.acceptedIds ++ bayBits r.grant
    ++ opt1 (r.dwell.map (·.base)) ++ opt1 (r.dwell.map (·.mode)) ++ opt1 (r.dwell.map (·.step))
    ++ bool1 r.override ++ opt4 (remaining s.time r.dwellDeadline) ++ be1 r.extensions
    ++ optTime r.openSince ++ optTime r.openTravel ++ bayBits r.failed
    ++ holdBytes (remaining s.time) r.hold ++ opt1 (r.closingKind.map ClosingKind.number)
    ++ bool1 r.warning ++ optTime r.endOfWarning ++ optTime r.doorway
    ++ holdBytes (remaining s.time) (s.face (otherFace f)).seq.hold

/-- Every field of the latest beacon, or absent. -/
def beaconBytes : Option Beacon → List Byte
  | none => List.replicate 7 0xFF#8
  | some b =>
    [b.code] ++ be2 b.train.toNat ++ be1 (if b.moving then 1 else 2) ++ bool1 b.doorsClosed
      ++ bool1 b.ready ++ bool1 b.emergency

/-- The Berth Monitor's items that R19 names for STATUS FACE. -/
def State.berthBytes (s : State) (f : Face) : List Byte :=
  let b := (s.face f).berth
  be1 (if b.present then 0 else 1) ++ beaconBytes b.latest
    ++ opt4 (b.lastGood.map (elapsed s.time)) ++ bool1 b.vacant ++ doorBytes b.doorList
    ++ opt1 (b.consist.map (·.1)) ++ be1 (sourceNumber (b.consist.map (·.2)))
    ++ expectationBytes b.staged ++ expectationBytes b.active

/-- The reply of STATUS FACE. A filtered line level is 1 for ENABLE asserted, for a loop contact made and for
FIRE high (DESIGN CHOICE, notes/assumptions/44.md). While a load is open the loop and FIRE are read under the senses
that the load has so far (DESIGN CHOICE, notes/assumptions/45.md). -/
def State.statusFace (s : State) (f : Face) : List Byte :=
  let b := s.face f
  s.recordBytes f ++ s.berthBytes f
    ++ be4 (sumCounts b.bays (·.boarded)) ++ be4 (sumCounts b.bays (·.alighted))
    ++ optTime b.sensing.lastPassage ++ be1 (activeGaps b.bays)
    ++ be1 b.release.phase.number ++ be1 b.release.causeBits ++ bayBits b.release.pulled
    ++ be1 b.fault.flags.toSet.toNat ++ be1 b.fault.mask.toNat ++ bool1 b.fault.summary
    ++ bool1 b.enable.level ++ bool1 b.loop.level ++ bool1 s.fire.level
    ++ bool1 (s.loopClosed f) ++ bool1 s.fireActive
    ++ bool1 b.permit ++ bool1 (s.releaseActive f) ++ bool1 (s.staffAlarm f)

/-! ### STATUS BAYS (R163) -/

def qualifierBytes : Option GapQualifier → List Byte
  | none => List.replicate 10 0xFF#8
  | some q => be1 (yesNo q.active) ++ optTime q.since ++ optTime q.start ++ opt1 q.lastCount

def decoderBytes : Option Decoder → List Byte
  | none => List.replicate 13 0xFF#8
  | some d =>
    bool1 d.brokenA ++ bool1 d.brokenB ++ be1 d.state.number ++ optTime d.firstBreak
      ++ opt1 (d.entrySide.map Side.number) ++ optTime d.lastEdge ++ bool1 (d.brokenA || d.brokenB)

def closingBytes : Option ClosingEntry → List Byte
  | none => List.replicate 7 0xFF#8
  | some e =>
    be1 e.phase.number ++ be1 (min 255 e.retries) ++ optTime (e.deadline.orElse fun _ => e.travel)
      ++ bool1 e.repeated

/-- One entry of STATUS BAYS. -/
def State.bayBytes (s : State) (f : Face) (e : BayEntry) : List Byte :=
  be1 e.num ++ opt1 (e.cls.map Cls.number) ++ bool1 e.granted ++ bool1 e.isolated
    ++ opt1 (e.inFlight.map BayOrder.number) ++ opt1 (e.waiting.map BayOrder.number) ++ bool1 e.busyHold
    ++ be1 e.miss ++ bool1 e.silent
    ++ (match e.report with
        | none => [0xFF#8]
        | some r => reportBytes r.1 ++ time4 r.2)
    ++ qualifierBytes e.gap ++ decoderBytes e.beams ++ closingBytes (s.entry f e.num)
    ++ be1 (min 255 e.surveyPolls)

/-- The search state: IDLE 0 or SEARCHING 1, its base, and the mask of its next step. A step half done, its
sibling query still to come, counts as the next step, with the base it began at; while only the hit is left,
no step remains: the base is the hit address and the mask is absent
(DESIGN CHOICE, notes/assumptions/34.md). -/
def searchBytes : Search → List Byte
  | .idle => [0#8, 0xFF#8, 0xFF#8]
  | .lower base mask => be1 1 ++ be1 base ++ be1 mask
  | .upper base mask => be1 1 ++ be1 base ++ be1 mask
  | .hit a => be1 1 ++ be1 a ++ [0xFF#8]

/-- The reply of STATUS BAYS: at most four entries from the first bay number on. -/
def State.statusBays (s : State) (f : Face) (first : Nat) : List Byte :=
  let from_ := (s.face f).bays.filter fun e => decide (first ≤ e.num)
  let shown := from_.take 4
  counted shown.length (shown.flatMap (s.bayBytes f))
    ++ opt1 ((from_.drop 4).head?.map (·.num))
    ++ opt1 (s.face f).bus.cursor ++ searchBytes (s.face f).bus.search

/-! ### The READ requests -/

/-- The reply of READ ALIGNMENT (R42): every field of R40, in its order. -/
def alignmentBytes (m : Measurement) : List Byte :=
  be1 m.status.number ++ opt1 m.consist ++ be1 (sourceNumber m.source) ++ opt2 m.antenna
    ++ opt4 m.mark ++ opt2 m.tolerance ++ optTime m.requestTime ++ optTime m.startTime
    ++ be1 m.samples ++ be1 m.weak ++ be1 m.ghost ++ be1 m.range
    ++ counted m.run.length (m.run.flatMap be4)
    ++ opt4 m.front ++ optSigned m.error ++ opt1 (m.verdict.map Verdict.number)
    ++ (match m.bayClasses with
        | none => [0xFF#8]
        | some cs => counted cs.length (cs.flatMap fun c => be1 c.cls.number ++ opt1 c.door))
    ++ (match m.doorClasses with
        | none => [0xFF#8]
        | some cs => counted cs.length (cs.flatMap fun c => be1 c.cls.number ++ opt1 c.bay))
    ++ bayBits m.grant ++ doorBytes m.doorList ++ bayBits m.evacuation ++ doorBytes m.evacDoors
    ++ optTime m.completion ++ opt1 (m.abandon.map AbandonCause.number)

/-- The reply of READ COUNTS (R121, section 11.2). -/
def FaceBlock.countsBytes (b : FaceBlock) : List Byte :=
  let fitted := b.bays.filter fun e => e.beams.isSome
  optTime b.sensing.lastPassage ++ optTime b.sensing.clearedAt
    ++ be4 (sumCounts b.bays (·.boarded)) ++ be4 (sumCounts b.bays (·.alighted))
    ++ bayBits (fitted.map (·.num))
    ++ (fitted.filterMap (·.beams)).flatMap fun d => be2 d.boarded ++ be2 d.alighted ++ be2 d.discarded

/-- The Fault Record in a reply, or absent. -/
def faultRecordBytes : Option FaultRecord → List Byte
  | none => List.replicate 10 0xFF#8
  | some r =>
    be1 r.flag.number ++ opt1 r.bay ++ be1 r.state.number ++ opt1 (r.substate.map OpenSub.number)
      ++ opt1 (r.lastAccepted.map BitVec.toNat) ++ time4 r.time ++ bool1 r.byMask

/-- The reply of READ FAULTS (R150). The seven flags stand one after another with no count before them, and
the byte of each is 1 for set and 0 for clear (DESIGN CHOICE, notes/assumptions/44.md). -/
def State.faultsBytes (s : State) (f : Face) : List Byte :=
  let u := (s.face f).fault
  (allFlags.flatMap fun fl =>
      let x := u.flags.get fl
      bool1 x.isSome ++ opt1 (x.bind (·.bay)) ++ optTime (x.map (·.time)))
    ++ be1 u.mask.toNat ++ be1 (s.params f).defaultMask.toNat ++ bool1 u.summary
    ++ faultRecordBytes u.record

/-- The reply of READ RELEASE (R137). The leaf states of the bays opened are a list with its count
(DESIGN CHOICE, notes/assumptions/44.md). -/
def State.releaseBytes (s : State) (f : Face) : List Byte :=
  let r := (s.face f).release
  be1 r.causeBits ++ bayBits r.pulled ++ be1 r.phase.number
    ++ opt1 (r.first.map fun c => c.1.number) ++ opt1 (causeBay r.first) ++ optTime r.entryTime
    ++ bool1 r.evacIssued ++ bayBits r.opened ++ optTime r.resetTime
    ++ be1 (if s.loopClosed f then 0 else 1) ++ be1 (s.params f).loopSense
    ++ be1 (if s.fireActive then 0 else 1) ++ be1 s.store.fireSense
    ++ counted r.opened.length
        (r.opened.flatMap fun n =>
          opt1 (((s.bay f n).bind (·.report)).map fun x => x.1.leaf.number))

/-- "Ostrafen" and "MH640" as names: the number of characters, then the characters. -/
def makerName : List Byte := [8#8, 79#8, 115#8, 116#8, 114#8, 97#8, 102#8, 101#8, 110#8]

def partName : List Byte := [5#8, 77#8, 72#8, 54#8, 52#8, 48#8]

/-- The reply of IDENTIFY (R166), face A's byte and face B's with no count before them
(DESIGN CHOICE, notes/assumptions/44.md). -/
def State.identifyBytes (s : State) : List Byte :=
  makerName ++ partName ++ [Config.designLevel]
    ++ be1 (match s.store.load with | .idle => 0 | .loading => 1)
    ++ be1 (if s.store.valid then 0 else 1)
    ++ bool1 s.store.broughtIn.a ++ bool1 s.store.broughtIn.b
    ++ time4 s.time ++ be2 s.discards

end Sys2Proof.Machine
end

