-- ==== Sys2Proof/Machine/LinkRequests.lean ====
section
/-!
DEFINITION. The requests of the Link Interface and of the Configuration Store: IDENTIFY, TIME SET,
RESTART, the load requests, FETCH EVENTS and a kind that names no request (R3, R5, R13 to R18, R161,
R165 to R169). Each request has one body, which its `exec` carries out through `serve`.
-/

namespace Sys2Proof.Machine

/-- The end of an accepted request that changes state: the permits are composed (R154), and then the
reply's fields are taken. -/
def finish (st : Status) (fields : State → List Byte) : Body := fun s =>
  let s := settle s
  (s, ⟨st, fields s⟩)

/-- No fields. -/
def noFields : State → List Byte := fun _ => []

/-! ### IDENTIFY (R166) -/

def identifyBody (p : List Byte) : Body := needLength (p.length == 0) (answer State.identifyBytes)

def execIdentify (tag : Byte) (p : List Byte) (s : State) : Host.Outcome State Fault Refusal :=
  .next (serve ⟨0x01#8, tag, p⟩ (identifyBody p) s)

/-! ### TIME SET (R165) -/

def shiftOpt (d : Time) (t : Option Time) : Option Time := t.map (· + d)

def LineFilter.shift (d : Time) (x : LineFilter) : LineFilter := { x with since := shiftOpt d x.since }

def HoldRecord.shift (d : Time) (h : HoldRecord) : HoldRecord :=
  { h with countingStart := shiftOpt d h.countingStart, capDeadline := shiftOpt d h.capDeadline }

def FaceRecord.shift (d : Time) (r : FaceRecord) : FaceRecord :=
  { r with
    dwellDeadline := shiftOpt d r.dwellDeadline
    openTravel := shiftOpt d r.openTravel
    hold := r.hold.map (HoldRecord.shift d)
    closing := r.closing.map fun e =>
      { e with deadline := shiftOpt d e.deadline, travel := shiftOpt d e.travel }
    endOfWarning := shiftOpt d r.endOfWarning
    doorway := shiftOpt d r.doorway }

def Berth.shift (d : Time) (b : Berth) : Berth :=
  { b with
    lastGood := shiftOpt d b.lastGood
    lastReading := shiftOpt d b.lastReading
    weakSince := shiftOpt d b.weakSince }

def BayEntry.shift (d : Time) (e : BayEntry) : BayEntry :=
  { e with
    gap := e.gap.map fun q => { q with start := shiftOpt d q.start }
    beams := e.beams.map fun x =>
      { x with firstBreak := shiftOpt d x.firstBreak, lastEdge := shiftOpt d x.lastEdge } }

def FaceBlock.shift (d : Time) (b : FaceBlock) : FaceBlock :=
  { b with
    seq := b.seq.shift d
    berth := b.berth.shift d
    bays := b.bays.map (BayEntry.shift d)
    bus := { b.bus with outstanding := b.bus.outstanding.map fun t => { t with windowEnd := t.windowEnd + d } }
    sensing := { b.sensing with lastPassage := shiftOpt d b.sensing.lastPassage }
    enable := b.enable.shift d
    loop := b.loop.shift d }

def Receiver.shift (d : Time) : Receiver → Receiver
  | .hunting => .hunting
  | .inFrame bs last => .inFrame bs (last + d)

/-- The counter takes a value, and every time held for timing moves by the shift (R165). -/
def setTime (t : Time) (s : State) : State :=
  let d := t - s.time
  { s with
    time := t
    faces := ⟨s.faces.a.shift d, s.faces.b.shift d⟩
    fire := s.fire.shift d
    receiver := s.receiver.shift d }

/-- The reply carries the counter before and after. -/
def timeSetBody (p : List Byte) : Body :=
  needLength (p.length == 4) fun s =>
    let t : Time := BitVec.ofNat 32 (numAt p 0 4)
    (setTime t s, ⟨.done, time4 s.time ++ time4 t⟩)

def execTimeSet (tag : Byte) (p : List Byte) (s : State) : Host.Outcome State Fault Refusal :=
  .next (serve ⟨0x02#8, tag, p⟩ (timeSetBody p) s)

/-! ### RESTART (R167) -/

/-- A frame held behind the RESTART is discarded, and DROPPED set for the next reply. -/
def dropHeld (s : State) : State :=
  if s.rx.isEmpty then s else { s with rx := [], dropped := true }

/-- RESTART served: the reply on the state before, and then the reset. -/
def restart (fr : Frame) (s : State) : State :=
  resetWorking (dropHeld (leaveBuffer (sendReply fr ⟨.done, []⟩ s)))

def execRestart (tag : Byte) (p : List Byte) (s : State) : Host.Outcome State Fault Refusal :=
  let fr : Frame := ⟨0x03#8, tag, p⟩
  .next (if s.atFront fr && p.length == 0 then restart fr s else serve fr (refuse .badLength) s)

/-! ### LOAD BEGIN (R3) -/

/-- The face states in which LOAD BEGIN is accepted. -/
def FaceState.loadable : FaceState → Bool
  | .empty => true
  | .outOfService => true
  | .held => true
  | _ => false

def loadBeginBody (p : List Byte) : Body :=
  needLength (p.length == 0) fun s =>
    if (s.stateOf .a).loadable && (s.stateOf .b).loadable then finish .done noFields (beginLoad s)
    else refuse .state s

def execLoadBegin (tag : Byte) (p : List Byte) (s : State) : Host.Outcome State Fault Refusal :=
  .next (serve ⟨0x04#8, tag, p⟩ (loadBeginBody p) s)

/-! ### LOAD RECORD (R5) -/

/-- A number in a reply, in a width of 1, 2 or 4 bytes. -/
def numberIn (width n : Nat) : List Byte :=
  match width with
  | 1 => be1 n
  | 2 => be2 n
  | _ => be4 n

/-- The examination of a record and its reply (R5, section 11.2). -/
def loadRecordBody (p : List Byte) : Body :=
  needLength (recordLengthOk p) fun s =>
    if s.store.load = .loading then
      match examineRecord s.store p with
      | .badFace => refuse .badFace s
      | .error reason field door =>
        (s, ⟨.loadError, be1 reason.number ++ be1 (byteAt p 0) ++ be1 field ++ be1 door⟩)
      | .stored st => ({ s with store := st }, ⟨.done, []⟩)
      | .clamped st v w => ({ s with store := st }, ⟨.doneClamped, numberIn w v⟩)
    else refuse .state s

/-- A LOAD RECORD frame served. -/
def serveRecord (tag : Byte) (p : List Byte) (s : State) : State := serve ⟨0x05#8, tag, p⟩ (loadRecordBody p) s

def execLoadRecordBay (tag : Byte) (fields : List Byte) (s : State) : Host.Outcome State Fault Refusal :=
  .next (serveRecord tag (1#8 :: fields) s)

def execLoadRecordCell (tag : Byte) (fields : List Byte) (s : State) : Host.Outcome State Fault Refusal :=
  .next (serveRecord tag (2#8 :: fields) s)

def execConsistFirstPart (tag code : Byte) (rest : List Byte) (s : State) : Host.Outcome State Fault Refusal :=
  .next (serveRecord tag (3#8 :: code :: 1#8 :: rest) s)

def execConsistContinuation (tag : Byte) (fields : List Byte) (s : State) :
    Host.Outcome State Fault Refusal :=
  .next (serveRecord tag (3#8 :: fields) s)

def execLoadRecordStop (tag : Byte) (fields : List Byte) (s : State) : Host.Outcome State Fault Refusal :=
  .next (serveRecord tag (4#8 :: fields) s)

def execLoadRecordParam (tag : Byte) (fields : List Byte) (s : State) : Host.Outcome State Fault Refusal :=
  .next (serveRecord tag (5#8 :: fields) s)

def execLoadRecordUnknownKind (tag : Byte) (p : List Byte) (s : State) : Host.Outcome State Fault Refusal :=
  .next (serveRecord tag p s)

/-! ### LOAD END (R13 to R16) -/

/-- A failed check in the six bytes of section 11.2; the fourth is a free value
(DESIGN CHOICE, notes/assumptions/4.md). -/
def LoadFail.bytes (x : LoadFail) (free : Byte) : List Byte :=
  be1 x.check ++ be1 x.kind ++ opt1 (x.face.map faceNumber) ++ [free] ++ opt1 x.key ++ opt1 x.door

/-- LOAD END under either flag (R14, R16); the detail of a success is face A's byte and face B's, with no count
before them (DESIGN CHOICE, notes/assumptions/44.md). -/
def loadEndBody (p : List Byte) : Body :=
  needLength (p.length == 1) fun s =>
    if s.store.load = .loading then
      match loadOutcome s.store (byteAt p 0 != 0) with
      | .inl x =>
        ({ s with freeCount := s.freeCount + 1 }, ⟨.loadError, x.bytes (Config.freeByte s.freeCount)⟩)
      | .inr pass => finish .done (fun _ => bool1 pass.a ++ bool1 pass.b) (completeLoad pass s)
    else refuse .state s

def execLoadEnd (tag : Byte) (p : List Byte) (s : State) : Host.Outcome State Fault Refusal :=
  .next (serve ⟨0x06#8, tag, p⟩ (loadEndBody p) s)

def execLoadEndEarly (tag : Byte) (p : List Byte) (s : State) : Host.Outcome State Fault Refusal :=
  .next (serve ⟨0x06#8, tag, p⟩ (loadEndBody p) s)

/-! ### LOAD ABANDON (R17) -/

def loadAbandonBody (p : List Byte) : Body :=
  needLength (p.length == 0) fun s =>
    if s.store.load = .loading then finish .done noFields (modStore abandonLoad s) else refuse .state s

def execLoadAbandon (tag : Byte) (p : List Byte) (s : State) : Host.Outcome State Fault Refusal :=
  .next (serve ⟨0x07#8, tag, p⟩ (loadAbandonBody p) s)

/-! ### FETCH EVENTS (R169) -/

/-- The records a FETCH EVENTS reply carries: their number, then the records. -/
def batchBytes (xs : List EventRecord) : List Byte := counted xs.length (xs.flatMap eventBytes)

/-- The oldest records leave the queue and become the repeat batch. -/
def takeBatch (s : State) : State :=
  { s with events := s.events.drop Config.fetchSize, batch := s.events.take Config.fetchSize }

def fetchEventsBody (p : List Byte) : Body :=
  needLength (p.length == 1) fun s =>
    let s := if byteAt p 0 = 0 then takeBatch s else s
    (s, ⟨.done, batchBytes s.batch⟩)

def execFetchEvents (tag : Byte) (p : List Byte) (s : State) : Host.Outcome State Fault Refusal :=
  .next (serve ⟨0x1D#8, tag, p⟩ (fetchEventsBody p) s)

def execFetchEventsRepeat (tag : Byte) (p : List Byte) (s : State) : Host.Outcome State Fault Refusal :=
  .next (serve ⟨0x1D#8, tag, p⟩ (fetchEventsBody p) s)

/-! ### A kind that names no request (R161) -/

/-- The kinds that name requests (section 11.2). -/
def namesRequest (kind : Byte) : Bool := decide (1 ≤ kind.toNat ∧ kind.toNat ≤ 0x1D)

/-- A frame of a kind that names a request is no frame of this command, which then has no effect. -/
def execUnknownKind (kind tag : Byte) (p : List Byte) (s : State) : Host.Outcome State Fault Refusal :=
  .next (if namesRequest kind then s else serve ⟨kind, tag, p⟩ (refuse .unknownKind) s)

end Sys2Proof.Machine
end

