-- ==== Sys2Proof/Machine/FaceRequests.lean ====
section
/-!
DEFINITION. The host's orders to a face: EXPECT CONSIST, OPEN ORDER, WITHDRAW ORDER, CLOSE ORDER,
REMEASURE, DWELL SET, CONNECT HOLD, CONNECT CANCEL, ISOLATE BAY and RESTORE BAY (R35, R66, R68, R71,
R77 to R80, R164).
-/

namespace Sys2Proof.Machine

/-- DONE, or DONE_CLAMPED where a clamped value is carried (R162). -/
def clampStatus (clamped : List Byte) : Status := if clamped.isEmpty then .done else .doneClamped

/-- A clamped field's value as a reply carries it; nothing where the field was not clamped. -/
def clampedBytes (sent used : Nat) (bytes : List Byte) : List Byte := if used = sent then [] else bytes

/-! ### EXPECT CONSIST (R35) -/

/-- The staged slot as the request writes it, from the code used. -/
def stagedBy (p : List Byte) (code : Nat) : Option Expectation :=
  if code = 0 then none
  else some ⟨code, if p.length = 5 then some (BitVec.ofNat 16 (numAt p 3 2)) else none⟩

/-- The length must be one of the two (R172). -/
def expectConsistBody (p : List Byte) : Body :=
  needLength (p.length == 3 || p.length == 5) (needFace p fun f => needConfig fun s =>
    if s.stateOf f = .outOfService then refuse .state s
    else
      let sent := numAt p 1 2
      let code := min 254 sent
      let clamped := clampedBytes sent code (be1 code)
      finish (clampStatus clamped)
        (fun s => clamped ++ expectationBytes (s.face f).berth.staged ++ expectationBytes (s.face f).berth.active)
        (modBerth f (fun b => { b with staged := stagedBy p code }) s))

def execExpectConsist (tag : Byte) (p : List Byte) (s : State) : Host.Outcome State Fault Refusal :=
  .next (serve ⟨0x0E#8, tag, p⟩ (expectConsistBody p) s)

/-! ### OPEN ORDER (R68) -/

/-- The states in which an order is placed. -/
def FaceState.takesOrder : FaceState → Bool
  | .empty => true
  | .arriving => true
  | .measuring => true
  | .berthed => true
  | _ => false

/-- An id placed in the order slot. -/
def placeOrder (f : Face) (id : Byte) (s : State) : State := modSeq f (fun r => { r with slot := some id }) s

/-- The detail is ACCEPTED (1) where the acceptance test passes at the placing, else PENDING (2). -/
def openOrderBody (p : List Byte) : Body :=
  faceRequest 2 p fun f s =>
    let id := p.getD 1 0#8
    let r := (s.face f).seq
    if id = 0#8 ∨ r.acceptedIds.contains id.toNat then refuse .badId s
    else if ¬ r.state.takesOrder then refuse .state s
    else if r.slot.isSome then refuse .orderPending s
    else
      let s := placeOrder f id s
      finish .done (fun _ => be1 (if s.mayOpen f then 1 else 2)) (acceptanceTest f s)

def execOpenOrder (tag : Byte) (p : List Byte) (s : State) : Host.Outcome State Fault Refusal :=
  .next (serve ⟨0x0F#8, tag, p⟩ (openOrderBody p) s)

/-! ### WITHDRAW ORDER (R71, R162) -/

/-- An order id of 0 is refused with BAD_ID (R162), before R71 looks where an id stands
(DEDUCED, notes/assumptions/37.md); of any other id the outcome is where it stands (R71). -/
def withdrawOrderBody (p : List Byte) : Body :=
  faceRequest 2 p fun f s =>
    let id := p.getD 1 0#8
    let r := (s.face f).seq
    if id = 0#8 then refuse .badId s
    else if r.slot = some id then
      finish .done (fun _ => be1 1) (modSeq f (fun r => { r with slot := none }) s)
    else if r.lastAccepted = some id then refuse .tooLate s
    else refuse .noSuchOrder s

def execWithdrawOrder (tag : Byte) (p : List Byte) (s : State) : Host.Outcome State Fault Refusal :=
  .next (serve ⟨0x10#8, tag, p⟩ (withdrawOrderBody p) s)

/-! ### CLOSE ORDER (R78, R88) -/

def closeOrderBody (p : List Byte) : Body :=
  faceRequest 1 p fun f s =>
    if s.stateOf f = .opened then finish .done noFields (enterClosing f 2 s)
    else if s.stateOf f = .held then finish .done noFields (startHeldClose f s)
    else refuse .state s

def execCloseOrder (tag : Byte) (p : List Byte) (s : State) : Host.Outcome State Fault Refusal :=
  .next (serve ⟨0x11#8, tag, p⟩ (closeOrderBody p) s)

/-! ### REMEASURE (R66) -/

def remeasureBody (p : List Byte) : Body :=
  faceRequest 1 p fun f s =>
    if s.stateOf f = .berthed then finish .done noFields (enterMeasuring f s) else refuse .state s

def execRemeasure (tag : Byte) (p : List Byte) (s : State) : Host.Outcome State Fault Refusal :=
  .next (serve ⟨0x12#8, tag, p⟩ (remeasureBody p) s)

/-! ### DWELL SET (R77) -/

/-- The working dwell values written; in OPEN the dwell starts again, with the extension count and the
hold record kept. -/
def dwellSet (f : Face) (v : DwellValues) (s : State) : State :=
  modSeq f (fun r =>
    let r := { r with dwell := some v, override := true }
    if r.state = .opened then
      { r with
        dwellDeadline := some (s.time + sec v.base)
        substate := some .dwell
        hold := r.hold.map fun h => { h with capDeadline := none } }
    else r) s

def dwellSetBody (p : List Byte) : Body :=
  faceRequest 6 p fun f s =>
    if s.stateOf f = .outOfService then refuse .state s
    else
      let base := clampTo 5 180 (numAt p 1 2)
      let mode := clampTo 0 1 (byteAt p 3)
      let step := clampTo 2 20 (numAt p 4 2)
      let clamped :=
        clampedBytes (numAt p 1 2) base (be1 base) ++ clampedBytes (byteAt p 3) mode (be1 mode)
          ++ clampedBytes (numAt p 4 2) step (be1 step)
      finish (clampStatus clamped) (fun _ => clamped) (dwellSet f ⟨base, mode, step⟩ s)

def execDwellSet (tag : Byte) (p : List Byte) (s : State) : Host.Outcome State Fault Refusal :=
  .next (serve ⟨0x13#8, tag, p⟩ (dwellSetBody p) s)

/-! ### CONNECT HOLD (R79) -/

/-- The states in which a connection hold is taken. -/
def FaceState.takesHold : FaceState → Bool
  | .empty => true
  | .arriving => true
  | .measuring => true
  | .berthed => true
  | .opening => true
  | .opened => true
  | _ => false

/-- The record made, or replaced with its accumulated time kept (R79, R80). -/
def makeHold (f : Face) (minimum cap : Nat) (s : State) : State :=
  modSeq f (fun r =>
    { r with
      hold := some
        (match r.hold with
        | some h => { h with minimum := minimum, cap := cap }
        | none => ⟨minimum, cap, 0, if r.state = .opened then some s.time else none, none⟩) }) s

/-- The cap deadline of a face's hold record. -/
def setCap (f : Face) (d : Option Time) (s : State) : State :=
  modSeq f (fun r => { r with hold := r.hold.map fun h => { h with capDeadline := d } }) s

/-- In CONNECTION_WAIT the new minimum is tested at once, and if it is not met the cap runs anew. -/
def retestHold (f : Face) (cap : Nat) (s : State) : State :=
  if (s.face f).seq.substate = some .connectionWait then
    if (s.face f).seq.holdSatisfied then satisfied f (setCap f none s)
    else setCap f (some (s.time + sec cap)) s
  else s

def connectHoldBody (p : List Byte) : Body :=
  faceRequest 5 p fun f s =>
    if (s.face (otherFace f)).seq.hold.isSome then refuse .holdLoop s
    else if ¬ (s.stateOf f).takesHold then refuse .state s
    else
      let minimum := clampTo 0 120 (numAt p 1 2)
      let cap := clampTo 10 300 (numAt p 3 2)
      let clamped :=
        clampedBytes (numAt p 1 2) minimum (be1 minimum) ++ clampedBytes (numAt p 3 2) cap (be2 cap)
      finish (clampStatus clamped)
        (fun s => clamped ++ holdBytes (Option.map BitVec.toNat) (s.face f).seq.hold)
        (retestHold f cap (makeHold f minimum cap s))

def execConnectHold (tag : Byte) (p : List Byte) (s : State) : Host.Outcome State Fault Refusal :=
  .next (serve ⟨0x14#8, tag, p⟩ (connectHoldBody p) s)

/-! ### CONNECT CANCEL (R80) -/

/-- The record is cleared; a face in CONNECTION_WAIT acts as at a satisfied expiry. -/
def cancelHold (f : Face) (s : State) : State :=
  let waits := (s.face f).seq.substate = some .connectionWait
  let s := clearHold f s
  if waits then satisfied f s else s

/-- The detail is 1 where no record was held, else absent. -/
def connectCancelBody (p : List Byte) : Body :=
  faceRequest 1 p fun f s =>
    if (s.face f).seq.hold.isSome then finish .done (fun _ => opt1 none) (cancelHold f s)
    else (s, ⟨.done, be1 1⟩)

def execConnectCancel (tag : Byte) (p : List Byte) (s : State) : Host.Outcome State Fault Refusal :=
  .next (serve ⟨0x15#8, tag, p⟩ (connectCancelBody p) s)

/-! ### ISOLATE BAY and RESTORE BAY (R164) -/

/-- The states in which isolation may change. -/
def FaceState.takesIsolation : FaceState → Bool
  | .empty => true
  | .berthed => true
  | .closedLocked => true
  | .held => true
  | _ => false

/-- The isolation mark is written and the acceptance test made; the detail says whether it changed. -/
def isolationBody (mark : Bool) (p : List Byte) : Body :=
  faceRequest 2 p fun f =>
    needBay f (byteAt p 1) fun s =>
      if (s.stateOf f).takesIsolation then
        let changed := s.isolatedBay f (byteAt p 1) != mark
        finish .done (fun _ => bool1 changed)
          (acceptanceTest f (modBay f (byteAt p 1) (fun e => { e with isolated := mark }) s))
      else refuse .state s

def execIsolateBay (tag : Byte) (p : List Byte) (s : State) : Host.Outcome State Fault Refusal :=
  .next (serve ⟨0x16#8, tag, p⟩ (isolationBody true p) s)

def execRestoreBay (tag : Byte) (p : List Byte) (s : State) : Host.Outcome State Fault Refusal :=
  .next (serve ⟨0x17#8, tag, p⟩ (isolationBody false p) s)

end Sys2Proof.Machine
end

