-- ==== Sys2Proof/Machine/DeadlineEvents.lean ====
section
/-!
DEFINITION. The input lines with their filters (R151, R152, R124, R126) and the deadlines of the Face
Sequencer (R73, R75, R80, R82 to R85). A deadline command whose deadline is not held has no effect.
-/

namespace Sys2Proof.Machine

/-! ### Lines -/

def State.line (s : State) : Line → LineFilter
  | .enable f => (s.face f).enable
  | .loop f => (s.face f).loop
  | .fire => s.fire

def setLine (l : Line) (x : LineFilter) (s : State) : State :=
  match l with
  | .enable f => modFace f (fun b => { b with enable := x }) s
  | .loop f => modFace f (fun b => { b with loop := x }) s
  | .fire => { s with fire := x }

/-- The raw level of an input is `level` from now on (R151). -/
def LineFilter.input (x : LineFilter) (level : Bool) (now : Time) : LineFilter :=
  { x with
    raw := level
    since := if level = x.level then none else some (x.since.getD now) }

def execLineInputChange (l : Line) (level : Bool) (s : State) : Host.Outcome State Fault Refusal :=
  .next (setLine l ((s.line l).input level s.time) s)

/-- A change of the filtered ENABLE (R152). -/
def enableOffered (f : Face) (s : State) : State :=
  let st := s.stateOf f
  let s :=
    if !(s.face f).enable.level && (st == .opening || st == .opened) then
      post .enableLost (some f) none [st.number] s
    else s
  acceptanceTest f s

/-- The new filtered level is offered to the input's readers (R151), that of FIRE to face A before face B
(DESIGN CHOICE, notes/assumptions/12.md). -/
def offerLine (l : Line) (s : State) : State :=
  match l with
  | .enable f => enableOffered f s
  | .loop f => loopChanged f s
  | .fire => fireChanged .b (fireChanged .a s)

/-- The filtered level becomes the raw level. -/
def LineFilter.accept (x : LineFilter) : LineFilter := ⟨x.raw, x.raw, none⟩

/-- 20 ms have passed from candidate since with the raw level still different (R151). -/
def filterEnds (l : Line) (s : State) : State :=
  match (s.line l).since with
  | none => s
  | some t =>
    let s := advanceTo (t + ms Config.filterTime) s
    settle (offerLine l (setLine l (s.line l).accept s))

def execLineFilterExpiry (l : Line) (s : State) : Host.Outcome State Fault Refusal := .next (filterEnds l s)

/-! ### Opening (R73) -/

/-- The granted bays that are not open join the failed-to-open list, each with BAY_OBSTRUCTED; OBSTRUCT
is raised for them as one occurrence (R140). -/
def failUnopened (f : Face) (s : State) : State :=
  let ns := (s.face f).seq.grant.filter fun n => !(s.bay f n).any BayEntry.leafOpen
  let s := ns.foldl
    (fun s n =>
      post .bayObstructed (some f) (some n) [0]
        (modSeq f (fun r => { r with failed := insertAsc n r.failed }) s)) s
  raise f (ns.map fun n => (.obstruct, some n)) s

/-- The open travel deadline has passed. -/
def openTravelPassed (f : Face) (s : State) : State :=
  let s := failUnopened f s
  if s.stateOf f = .opening then
    if (s.face f).fault.summary then enterHeld f s else enterOpen f s
  else s

def openTravelEnds (f : Face) (s : State) : State :=
  match (s.face f).seq.openTravel with
  | some d => if s.stateOf f = .opening then settle (openTravelPassed f (advanceTo d s)) else s
  | none => s

def execOpenTravelDeadline (f : Face) (s : State) : Host.Outcome State Fault Refusal :=
  .next (openTravelEnds f s)

/-! ### The dwell and the connection hold (R75, R76, R80) -/

def dwellEnds (f : Face) (s : State) : State :=
  match (s.face f).seq.dwellDeadline with
  | some d => if s.stateOf f = .opened then settle (dwellExpired f (advanceTo d s)) else s
  | none => s

def execDwellExpiry (f : Face) (s : State) : Host.Outcome State Fault Refusal := .next (dwellEnds f s)

/-- The record of a face that waits in CONNECTION_WAIT. -/
def State.waitingHold (s : State) (f : Face) : Option HoldRecord :=
  if (s.face f).seq.substate = some .connectionWait then (s.face f).seq.hold else none

/-- The milliseconds that a record still lacks of its minimum. -/
def HoldRecord.lacks (h : HoldRecord) : Nat := h.minimum * 1000 - h.accumulated

/-- The accumulated time reaches the minimum: at once, or after what lacks where it counts (R80). -/
def minimumPasses (f : Face) (s : State) : State :=
  match s.waitingHold f with
  | none => s
  | some h =>
    if h.lacks = 0 ∨ (s.stateOf f = .opened ∧ s.stateOf (otherFace f) = .opened) then
      settle (satisfied f (setCap f none (elapse h.lacks s)))
    else s

def execMinimumReached (f : Face) (s : State) : Host.Outcome State Fault Refusal := .next (minimumPasses f s)

/-- The cap has passed: CONNECTION_MISSED, and the face does as at a satisfied expiry (R80). -/
def capPassed (f : Face) (s : State) : State :=
  let h := (s.face f).seq.hold
  satisfied f
    (setCap f none (post .connectionMissed (some f) none [((h.map (·.accumulated)).getD 0) / 1000] s))

def capPasses (f : Face) (s : State) : State :=
  match (s.waitingHold f).bind (·.capDeadline) with
  | none => s
  | some d => settle (capPassed f (advanceTo d s))

def execCapDeadline (f : Face) (s : State) : Host.Outcome State Fault Refusal := .next (capPasses f s)

/-! ### The closing procedure (R82 to R85) -/

/-- The bays of the closing list in a phase, in ascending number. -/
def State.baysIn (s : State) (f : Face) (p : Phase) : List Nat :=
  ((s.face f).seq.closing.filter fun e => e.phase == p).map (·.bay)

/-- A bay in a phase is taken, after others that have raised what they raise. -/
def takeBay (f : Face) (p : Phase) (g : Nat → State → Raising) (x : Raising) (n : Nat) : Raising :=
  if x.1.phaseOf f n = some p then ((g n x.1).1, x.2 ++ (g n x.1).2) else x

/-- The bays in a phase taken one after another, with the conditions that they raise in turn. -/
def takeBays (f : Face) (p : Phase) (g : Nat → State → Raising) (s : State) : Raising :=
  (s.baysIn f p).foldl (takeBay f p g) (s, [])

/-- A bay in WAITING at the end of warning (R82 step 2). -/
def leaveWaiting (f : Face) (n : Nat) (s : State) : Raising :=
  if (s.bay f n).any BayEntry.doorwayHeld && decide (0 < (s.params f).doorwayHold) then
    (modEntry f n (fun e => { e with phase := .doorway, deadline := none }) s, [])
  else closeOrTrip f n s

/-- The warning has ended (R82); the bays that it obstructs are one occurrence (R140). -/
def warningOver (f : Face) (s : State) : State :=
  let s := groupWarn f false (modSeq f (fun r => { r with endOfWarning := none }) s)
  let x := takeBays f .waiting (leaveWaiting f) s
  raised f
    (modSeq f (fun r => { r with doorway := some (x.1.time + sec (x.1.params f).doorwayHold) }) x.1, x.2)

def warningEnds (f : Face) (s : State) : State :=
  match (s.face f).seq.endOfWarning with
  | some d => if s.closingRuns f then settle (warningOver f (advanceTo d s)) else s
  | none => s

def execEndOfWarning (f : Face) (s : State) : Host.Outcome State Fault Refusal := .next (warningEnds f s)

/-- The doorway deadline has passed (R82); the bays that it obstructs are one occurrence (R140). -/
def doorwayOver (f : Face) (s : State) : State := raised f (takeBays f .doorway (closeOrTrip f) s)

def doorwayEnds (f : Face) (s : State) : State :=
  match (s.face f).seq.doorway with
  | some d => if s.closingRuns f then settle (doorwayOver f (advanceTo d s)) else s
  | none => s

def execDoorwayDeadline (f : Face) (s : State) : Host.Outcome State Fault Refusal := .next (doorwayEnds f s)

/-- A deadline of a bay's entry while its procedure runs. -/
def State.bayDeadline (s : State) (f : Face) (n : Nat) (d : ClosingEntry → Option Time) : Option Time :=
  if s.closingRuns f then (s.entry f n).bind d else none

/-- The end of the reopen pause (R83, R84). -/
def ClosingEntry.pauseEnd (e : ClosingEntry) : Option Time := if e.phase = .pause then e.deadline else none

/-- The end of the open travel limit of the latest CLOSE order (R83). -/
def ClosingEntry.travelEnd (e : ClosingEntry) : Option Time := if e.phase = .sent then e.travel else none

/-- The lock proof deadline (R85). -/
def ClosingEntry.proofEnd (e : ClosingEntry) : Option Time :=
  if e.phase = .sent && e.proving then e.deadline else none

/-- The reopen pause of a bay has ended (R84). -/
def pauseOver (f : Face) (n : Nat) (s : State) : State :=
  if (s.bay f n).any BayEntry.gapIsActive then
    modEntry f n (fun e => { e with phase := .gapWait, deadline := none }) s
  else orderClose f n s

def pauseEnds (f : Face) (n : Nat) (s : State) : State :=
  match s.bayDeadline f n ClosingEntry.pauseEnd with
  | none => s
  | some d => settle (pauseOver f n (advanceTo d s))

def execReopenPauseEnd (f : Face) (n : Nat) (s : State) : Host.Outcome State Fault Refusal :=
  .next (pauseEnds f n s)

/-- A bay's leaf has not been reported CLOSED within the limit: a retry, and CLOSE again (R83). -/
def travelOver (f : Face) (n : Nat) (s : State) : State :=
  let x := countRetry f n s
  raised f (if x.1.phaseOf f n = some .sent then orderClose f n x.1 else x.1, x.2)

def travelEnds (f : Face) (n : Nat) (s : State) : State :=
  match s.bayDeadline f n ClosingEntry.travelEnd with
  | none => s
  | some d => settle (travelOver f n (advanceTo d s))

def execCloseTravelLimit (f : Face) (n : Nat) (s : State) : Host.Outcome State Fault Refusal :=
  .next (travelEnds f n s)

/-- The lock proof time has passed with the bay not locked (R85). At the second expiry, after which the bay is only
waited for, its phase deadline becomes absent (DESIGN CHOICE, notes/assumptions/47.md). -/
def proofOver (f : Face) (n : Nat) (s : State) : State :=
  let repeated := (s.entry f n).any (·.repeated)
  let s := raise f [(.lock, some n)] s
  if s.phaseOf f n = some .sent then
    if repeated then modEntry f n (fun e => { e with deadline := none }) s
    else
      modEntry f n
        (fun e =>
          { e with
            repeated := true
            deadline := some (s.time + ms (s.params f).lockProof)
            travel := some (s.travelDeadline f) })
        (issue f n .closeLeaf s)
  else s

def proofEnds (f : Face) (n : Nat) (s : State) : State :=
  match s.bayDeadline f n ClosingEntry.proofEnd with
  | none => s
  | some d => settle (proofOver f n (advanceTo d s))

def execLockProofDeadline (f : Face) (n : Nat) (s : State) : Host.Outcome State Fault Refusal :=
  .next (proofEnds f n s)

end Sys2Proof.Machine
end

