-- ==== Sys2Proof/Machine/FaultRequests.lean ====
section
/-!
DEFINITION. The requests of the Fault Unit and of the Release Monitor: FAULT MASK, FAULT CLEAR, FACE
RESUME, EMERGENCY OPEN and RELEASE RESET (R88, R127, R134, R147 to R149).
-/

namespace Sys2Proof.Machine

/-! ### FAULT MASK (R147, R148) -/

/-- The mask is replaced; a summary that becomes set is captured with cause MASK_CHANGE and handed on. -/
def writeMask (f : Face) (mask : FlagSet) (s : State) : State :=
  let old := (s.face f).fault
  let s := modFault f (fun u => { u with mask := mask }) s
  let new := (s.face f).fault
  if !old.summary && new.summary then
    summarySet f
      (capture f true (fun fl => (new.flags.get fl).isSome && FlagSet.has old.mask fl && !FlagSet.has mask fl) s)
  else s

def faultMaskBody (p : List Byte) : Body :=
  faceRequest 2 p fun f s =>
    if s.stateOf f = .outOfService then refuse .state s
    else
      let sent := flagsOfByte (byteAt p 1)
      finish (if FlagSet.has sent .release then .doneClamped else .done)
        (fun s => be1 (s.face f).fault.mask.toNat ++ bool1 (s.face f).fault.summary)
        (acceptanceTest f (writeMask f (maskable sent) s))

def execFaultMask (tag : Byte) (p : List Byte) (s : State) : Host.Outcome State Fault Refusal :=
  .next (serve ⟨0x18#8, tag, p⟩ (faultMaskBody p) s)

/-! ### FAULT CLEAR (R149) -/

/-- The flags that a FAULT CLEAR names; bit 7 of its byte stands for ALL (section 11.2). -/
def namedFlags (n : Nat) (fl : Flag) : Bool := decide (128 ≤ n) || FlagSet.has (flagsOfByte n) fl

def FlagTable.clear (t : FlagTable) (named : Flag → Bool) : FlagTable :=
  allFlags.foldl (fun t fl => if named fl then t.put fl none else t) t

/-- The named flags are cleared, a record no longer needed emptied and FAULT_CLEARED posted. -/
def clearFaults (f : Face) (named : Flag → Bool) (s : State) : State :=
  let old := (s.face f).fault.flags
  let count := (allFlags.filter fun fl => named fl && (old.get fl).isSome).length
  let s := modFault f (fun u => { u with flags := u.flags.clear named }) s
  let summary := (s.face f).fault.summary
  let s := if summary then s else modFault f (fun u => { u with record := none }) s
  post .faultCleared (some f) none [count, yesNo summary] s

def faultClearBody (p : List Byte) : Body :=
  faceRequest 2 p fun f s =>
    if s.stateOf f = .outOfService then refuse .state s
    else
      finish .done
        (fun s => be1 (s.face f).fault.flags.toSet.toNat ++ bool1 (s.face f).fault.summary)
        (clearFaults f (namedFlags (byteAt p 1)) s)

def execFaultClear (tag : Byte) (p : List Byte) (s : State) : Host.Outcome State Fault Refusal :=
  .next (serve ⟨0x19#8, tag, p⟩ (faultClearBody p) s)

/-! ### FACE RESUME (R88) -/

def faceResumeBody (p : List Byte) : Body :=
  faceRequest 1 p fun f s =>
    if s.stateOf f = .held then
      if (s.face f).fault.summary then (s, ⟨.faultPresent, be1 (s.face f).fault.unmasked.toNat⟩)
      else finish .done noFields (enterSurvey f s)
    else refuse .state s

def execFaceResume (tag : Byte) (p : List Byte) (s : State) : Host.Outcome State Fault Refusal :=
  .next (serve ⟨0x1A#8, tag, p⟩ (faceResumeBody p) s)

/-! ### EMERGENCY OPEN (R127) -/

/-- The detail is 1 where STATION was already present, else absent; the causes present follow it in either
case (DESIGN CHOICE, notes/assumptions/41.md). -/
def emergencyOpenBody (p : List Byte) : Body :=
  faceRequest 1 p fun f s =>
    if s.stateOf f = .outOfService then refuse .state s
    else if (s.face f).release.station then
      (s, ⟨.done, be1 1 ++ be1 (s.face f).release.causeBits⟩)
    else
      finish .done (fun s => opt1 none ++ be1 (s.face f).release.causeBits) (appear f [(.station, none)] s)

def execEmergencyOpen (tag : Byte) (p : List Byte) (s : State) : Host.Outcome State Fault Refusal :=
  .next (serve ⟨0x1B#8, tag, p⟩ (emergencyOpenBody p) s)

/-! ### RELEASE RESET (R134) -/

/-- A cause other than STATION is present. -/
def Release.heldByOther (r : Release) : Bool := r.has .loop || r.has .handle || r.has .train || r.has .fire

/-- The detail of a reset: 1 when every configured bay is locked, 2 when some bay is not. -/
def State.resetDetail (s : State) (f : Face) : Nat := if (s.unlockedBays f).isEmpty then 1 else 2

/-- An accepted reset. -/
def resetRelease (f : Face) (s : State) : State :=
  let detail := s.resetDetail f
  let s := modRelease f (fun r =>
    { r with station := false, resetTime := some s.time, evacIssued := false }) s
  let s := modBerth f (fun b => { b with doorList := [] }) s
  let s := post .releaseReset (some f) none [detail] s
  if detail = 1 then enterSurvey f s
  else startRecovery f (modRelease f (fun r => { r with phase := .recovering }) s)

def releaseResetBody (p : List Byte) : Body :=
  faceRequest 1 p fun f s =>
    if s.stateOf f = .released then
      if (s.face f).release.heldByOther then
        (s, ⟨.causePresent, be1 (s.face f).release.causeBits ++ bayBits (s.face f).release.pulled⟩)
      else finish .done (fun _ => be1 (s.resetDetail f)) (resetRelease f s)
    else refuse .state s

def execReleaseReset (tag : Byte) (p : List Byte) (s : State) : Host.Outcome State Fault Refusal :=
  .next (serve ⟨0x1C#8, tag, p⟩ (releaseResetBody p) s)

end Sys2Proof.Machine
end

