-- ==== Sys2Proof/Machine/Train.lean ====
section
/-!
DEFINITION. The Train Link: a good beacon in the six steps of R28, the link's loss (R21, R22), the
strength readings with vacancy (R24, R25) and the motion indications (R27, R64 to R66, R86, R88).
-/

namespace Sys2Proof.Machine

/-! ### Indications -/

/-- The indication STATIONARY (R27): it moves an ARRIVING face to MEASURING (R65). -/
def giveStationary (f : Face) (s : State) : State :=
  if s.stateOf f = .arriving then enterMeasuring f s else s

/-- A re-berth or a measurement that MOVING ends: the face returns to ARRIVING (R59, R66). -/
def reBerth (f : Face) (s : State) : State := vacantAgain f (enterArriving f s)

/-- The indication MOVING (R27): a CURRENT record becomes STALE in every state (R61), and then each
state does as the table of section 4.2 says. -/
def giveMoving (f : Face) (s : State) : State :=
  let s := makeStale f s
  match s.stateOf f with
  | .measuring => reBerth f s
  | .berthed => reBerth f s
  | .opening => trainMovement f s
  | .opened => trainMovement f s
  | .closing => trainMovement f s
  | _ => s

/-! ### A good beacon (R28) -/

/-- Step 1: the latest beacon is replaced (R20), the link becomes PRESENT (R21) and vacant no (R25), and
a reported loss is over (R22). -/
def linkPresent (f : Face) (b : Beacon) (s : State) : State :=
  let was := (s.face f).berth
  let s := modBerth f (fun x =>
    { x with
      present := true
      latest := some b
      lastGood := some s.time
      vacant := if was.present then x.vacant else false
      lossReported := if was.present then x.lossReported else false }) s
  if !was.present && was.lossReported then post .linkRestored (some f) none [] s else s

/-- Step 2: ARRIVED at an EMPTY face (R26). -/
def arrived (f : Face) (b : Beacon) (s : State) : State :=
  if s.stateOf f = .empty then
    let s := select f b.code.toNat b.train (enterArriving f s)
    let s := post .arrived (some f) none
      [b.code.toNat, b.train.toNat, ((s.face f).berth.consist.map (·.1)).getD 0] s
    vacantAgain f (postMismatch f b.code.toNat b.train s)
  else s

/-- Step 3: the motion indication of R27, against the Berth Monitor as it was before the beacon. -/
def motion (f : Face) (was : Berth) (b : Beacon) (s : State) : State :=
  if b.moving then
    if was.latest.any (fun x => !x.moving) then giveMoving f s else s
  else if !was.present || was.latest.any (·.moving) then giveStationary f s
  else s

/-- Step 4: the values offered under R23. The acceptance test is made where the offered READY TO OPEN or
the link state has changed (R69). -/
def offer (f : Face) (was : Berth) (s : State) : State :=
  let now := (s.face f).berth
  let s :=
    if now.readyOffered ≠ was.readyOffered ∨ now.present ≠ was.present then acceptanceTest f s else s
  trainOffered f s

/-- Step 5: TRAIN_DOORS (R31). -/
def trainDoors (f : Face) (was : Berth) (b : Beacon) (s : State) : State :=
  if was.latest.any (fun x => x.doorsClosed != b.doorsClosed) then
    post .trainDoors (some f) none [yesNo b.doorsClosed] s
  else s

/-- The platform answer that a face gives a beacon now (R29). -/
def State.answerTo (s : State) (f : Face) (b : Beacon) : List Byte :=
  let st := s.stateOf f
  answerBytes b.train b.code (s.face f).berth.doorList (st == .opening || st == .opened)
    (s.face f).permit (st == .held || st == .released)

/-- Step 6: the platform answer is built, and an earlier one not yet sent is dropped (R29). -/
def answerBeacon (f : Face) (b : Beacon) (s : State) : State :=
  modBerth f (fun x => { x with answer := some (s.answerTo f b) }) s

/-- A good beacon is handled in the order of R28; PERMIT is composed before the answer (R154). -/
def goodBeacon (f : Face) (b : Beacon) (s : State) : State :=
  let was := (s.face f).berth
  let s := motion f was b (arrived f b (linkPresent f b s))
  let s := trainDoors f was b (offer f was s)
  answerBeacon f b (settle s)

/-! ### Loss of link (R21, R22) -/

/-- A loss of link is reportable in these states (R22). -/
def State.reportable (s : State) (f : Face) : Bool :=
  match s.stateOf f with
  | .measuring => true
  | .berthed => true
  | .opening => true
  | .opened => true
  | .closing => true
  | .held => true
  | .released => true
  | .closedLocked => (s.face f).berth.latest.any (fun b => !b.moving)
  | _ => false

/-- The link becomes LOST (R21): a reportable loss is posted and raised (R22), and the offered values
become absent (R23). -/
def linkLost (f : Face) (s : State) : State :=
  let was := (s.face f).berth
  let s := modBerth f (fun b => { b with present := false }) s
  let s :=
    if s.reportable f then
      raise f [(.link, none)]
        (modBerth f (fun b => { b with lossReported := true }) (post .linkLost (some f) none [] s))
    else s
  offer f was s

/-! ### Strength readings (R24, R25) -/

/-- Every strength of a reading lies below the face's strength floor. -/
def allWeak (floor : Nat) (ss : List Strength) : Bool := ss.all fun x => decide (x.toNat < floor)

/-- Weak since and vacant, brought up to date at a reading (R25). -/
def vacancy (f : Face) (ss : List Strength) (s : State) : State :=
  if allWeak (s.params f).strengthFloor ss then
    let since := (s.face f).berth.weakSince.getD s.time
    let s := modBerth f (fun b => { b with weakSince := some since }) s
    let b := (s.face f).berth
    if !b.vacant && !b.present && decide (Config.vacancyTime ≤ elapsed s.time since) then
      giveVacant f (modBerth f (fun b => { b with vacant := true }) s)
    else s
  else modBerth f (fun b => { b with weakSince := none, vacant := false }) s

/-- A reading of the face's configured cells: cell i's strength at place i, 0 where none was given. -/
def readingOf (n : Nat) (ss : List Strength) : List Strength := (List.range n).map fun i => ss.getD i 0#10

/-- A strength reading is taken (R24): it replaces the previous one, and the sample (R43) and the
vacancy test (R25) are made on it, in that order (DESIGN CHOICE, notes/assumptions/9.md). -/
def takeReading (f : Face) (ss : List Strength) (s : State) : State :=
  let ss := readingOf (s.cfg f).cells.length ss
  let s := modBerth f (fun b => { b with reading := ss, lastReading := some s.time }) s
  vacancy f ss (takeSample f ss s)

end Sys2Proof.Machine
end

