-- ==== Sys2Proof/Machine/LinkEvents.lean ====
section
/-!
DEFINITION. Power, the bytes of the Station Link (R158, R159), the Train Link's beacons and its loss, and
the strength readings (R20, R21, R24).
-/

namespace Sys2Proof.Machine

/-! ### POWER_ON -/

/-- Power is applied: every block takes its power-on state with the input lines as they stand. The
model's own records of what was sent, the queue of commands and the free values' counter go on. -/
def powerOn (s : State) : State :=
  let p := State.atPowerOn ⟨s.faces.a.enable.raw, s.faces.b.enable.raw⟩
    ⟨s.faces.a.loop.raw, s.faces.b.loop.raw⟩ s.fire.raw
  { p with
    faces :=
      ⟨{ p.faces.a with bus := { out := s.faces.a.bus.out } },
       { p.faces.b with bus := { out := s.faces.b.bus.out } }⟩
    stationOut := s.stationOut
    freeCount := s.freeCount
    pending := s.pending }

def execPowerOn (s : State) : Host.Outcome State Fault Refusal := .next (powerOn s)

/-! ### Bytes of the Station Link (R158) -/

/-- The frame being gathered is discarded. -/
def discardFrame (s : State) : State :=
  { s with receiver := .hunting, discards := min Config.countLimit (s.discards + 1) }

/-- The good frame that the bytes after a sync byte spell, where the check agrees. -/
def frameOf (bs : List Byte) : Option Frame :=
  match bs with
  | n :: kind :: tag :: rest =>
    let payload := rest.take n.toNat
    if rest.drop n.toNat = be2 (crc16 (n :: kind :: tag :: payload)).toNat then some ⟨kind, tag, payload⟩
    else none
  | _ => none

/-- A complete frame: to the receive buffer where it is good, else discarded. -/
def frameDone (bs : List Byte) (s : State) : State :=
  match frameOf bs with
  | some fr => enterBuffer fr { s with receiver := .hunting }
  | none => discardFrame s

/-- More than 20 ms have passed since the latest byte of the frame being gathered. -/
def State.gapPassed (s : State) : Bool :=
  match s.receiver with
  | .hunting => false
  | .inFrame _ last => decide (Config.byteGap < elapsed s.time last)

/-- A byte is taken by the receiver as it stands. -/
def gather (b : Byte) (s : State) : State :=
  match s.receiver with
  | .hunting => if b = 0xA5#8 then { s with receiver := .inFrame [] s.time } else s
  | .inFrame bs _ =>
    let n := ((bs ++ [b]).getD 0 0#8).toNat
    if Config.maxPayload < n then discardFrame s
    else if (bs ++ [b]).length = n + 5 then frameDone (bs ++ [b]) s
    else { s with receiver := .inFrame (bs ++ [b]) s.time }

/-- A byte arrives: a frame whose gap has passed is discarded first, and the byte taken afresh. -/
def receiveByte (b : Byte) (s : State) : State := gather b (if s.gapPassed then discardFrame s else s)

def execFrameComplete (last : Byte) (s : State) : Host.Outcome State Fault Refusal := .next (receiveByte last s)

def execStationLinkByte (byte : Byte) (s : State) : Host.Outcome State Fault Refusal :=
  .next (receiveByte byte s)

/-- The gap passes with a frame being gathered; while hunting nothing is discarded. -/
def byteGapPasses (s : State) : State :=
  match s.receiver with
  | .hunting => s
  | .inFrame _ last => discardFrame (advanceTo (last + ms (Config.byteGap + 1)) s)

def execInterByteGap (s : State) : Host.Outcome State Fault Refusal := .next (byteGapPasses s)

/-! ### The Train Link -/

/-- A byte block from the Train Link: a beacon that is not good is discarded (R20). -/
def takeBeacon (f : Face) (bs : List Byte) (s : State) : State :=
  match beaconOf bs with
  | none => s
  | some b => settle (goodBeacon f b s)

def execBeacon (f : Face) (bs : List Byte) (s : State) : Host.Outcome State Fault Refusal :=
  .next (takeBeacon f bs s)

/-- 500 ms have passed since the latest good beacon; nothing where the link is LOST already (R21). -/
def linkTimesOut (f : Face) (s : State) : State :=
  match (s.face f).berth.present, (s.face f).berth.lastGood with
  | true, some t => settle (linkLost f (advanceTo (t + ms Config.linkTimeout) s))
  | _, _ => s

def execLinkBecomesLost (f : Face) (s : State) : Host.Outcome State Fault Refusal := .next (linkTimesOut f s)

/-- The time of a face's next strength reading, 40 ms after the one before (R24). -/
def awaitReading (f : Face) (s : State) : State :=
  match (s.face f).berth.lastReading with
  | none => s
  | some t => advanceTo (t + ms Config.readingPace) s

/-- A strength reading; a face with no cell table in force has none (R24). -/
def strengthTaken (f : Face) (ss : List Strength) (s : State) : State :=
  if s.stateOf f = .outOfService then s else settle (takeReading f ss (awaitReading f s))

def execStrengthReading (f : Face) (ss : List Strength) (s : State) : Host.Outcome State Fault Refusal :=
  .next (strengthTaken f ss s)

end Sys2Proof.Machine
end

