-- ==== Sys2Proof/Machine/ReadRequests.lean ====
section
/-!
DEFINITION. The requests that report and change nothing: STATUS FACE, STATUS BAYS and the READ requests
(R42, R121, R137, R150, R163).
-/

namespace Sys2Proof.Machine

/-- STATUS FACE needs no configuration (R2, R163). -/
def statusFaceBody (p : List Byte) : Body :=
  needLength (p.length == 1) (needFace p fun f => answer fun s => s.statusFace f)

def execStatusFace (tag : Byte) (p : List Byte) (s : State) : Host.Outcome State Fault Refusal :=
  .next (serve ⟨0x08#8, tag, p⟩ (statusFaceBody p) s)

def statusBaysBody (p : List Byte) : Body :=
  faceRequest 2 p fun f => answer fun s => s.statusBays f (byteAt p 1)

def execStatusBays (tag : Byte) (p : List Byte) (s : State) : Host.Outcome State Fault Refusal :=
  .next (serve ⟨0x09#8, tag, p⟩ (statusBaysBody p) s)

def readAlignmentBody (p : List Byte) : Body :=
  faceRequest 1 p fun f => answer fun s => alignmentBytes (s.face f).meas

def execReadAlignment (tag : Byte) (p : List Byte) (s : State) : Host.Outcome State Fault Refusal :=
  .next (serve ⟨0x0A#8, tag, p⟩ (readAlignmentBody p) s)

def readCountsBody (p : List Byte) : Body :=
  faceRequest 1 p fun f => answer fun s => (s.face f).countsBytes

def execReadCounts (tag : Byte) (p : List Byte) (s : State) : Host.Outcome State Fault Refusal :=
  .next (serve ⟨0x0B#8, tag, p⟩ (readCountsBody p) s)

def readFaultsBody (p : List Byte) : Body :=
  faceRequest 1 p fun f => answer fun s => s.faultsBytes f

def execReadFaults (tag : Byte) (p : List Byte) (s : State) : Host.Outcome State Fault Refusal :=
  .next (serve ⟨0x0C#8, tag, p⟩ (readFaultsBody p) s)

def readReleaseBody (p : List Byte) : Body :=
  faceRequest 1 p fun f => answer fun s => s.releaseBytes f

def execReadRelease (tag : Byte) (p : List Byte) (s : State) : Host.Outcome State Fault Refusal :=
  .next (serve ⟨0x0D#8, tag, p⟩ (readReleaseBody p) s)

end Sys2Proof.Machine
end

