-- ==== Sys2Proof/Machine/Dispatch.lean ====
section
/-!
DEFINITION. The dispatch: one arm for each command of the table, each a direct call of its meaning.
-/

namespace Sys2Proof.Machine

def exec (i : Instr) (s : State) : Host.Outcome State Fault Refusal :=
  match i with
  | .powerOn => Sys2Proof.Machine.execPowerOn s
  | .identify tag payload => Sys2Proof.Machine.execIdentify tag payload s
  | .timeSet tag payload => Sys2Proof.Machine.execTimeSet tag payload s
  | .restart tag payload => Sys2Proof.Machine.execRestart tag payload s
  | .loadBegin tag payload => Sys2Proof.Machine.execLoadBegin tag payload s
  | .loadRecordBay tag fields => Sys2Proof.Machine.execLoadRecordBay tag fields s
  | .loadRecordCell tag fields => Sys2Proof.Machine.execLoadRecordCell tag fields s
  | .consistFirstPart tag code rest => Sys2Proof.Machine.execConsistFirstPart tag code rest s
  | .consistContinuation tag fields => Sys2Proof.Machine.execConsistContinuation tag fields s
  | .loadRecordStop tag fields => Sys2Proof.Machine.execLoadRecordStop tag fields s
  | .loadRecordParam tag fields => Sys2Proof.Machine.execLoadRecordParam tag fields s
  | .loadRecordUnknownKind tag payload => Sys2Proof.Machine.execLoadRecordUnknownKind tag payload s
  | .loadEnd tag payload => Sys2Proof.Machine.execLoadEnd tag payload s
  | .loadEndEarly tag payload => Sys2Proof.Machine.execLoadEndEarly tag payload s
  | .loadAbandon tag payload => Sys2Proof.Machine.execLoadAbandon tag payload s
  | .statusFace tag payload => Sys2Proof.Machine.execStatusFace tag payload s
  | .statusBays tag payload => Sys2Proof.Machine.execStatusBays tag payload s
  | .readAlignment tag payload => Sys2Proof.Machine.execReadAlignment tag payload s
  | .readCounts tag payload => Sys2Proof.Machine.execReadCounts tag payload s
  | .readFaults tag payload => Sys2Proof.Machine.execReadFaults tag payload s
  | .readRelease tag payload => Sys2Proof.Machine.execReadRelease tag payload s
  | .expectConsist tag payload => Sys2Proof.Machine.execExpectConsist tag payload s
  | .openOrder tag payload => Sys2Proof.Machine.execOpenOrder tag payload s
  | .withdrawOrder tag payload => Sys2Proof.Machine.execWithdrawOrder tag payload s
  | .closeOrder tag payload => Sys2Proof.Machine.execCloseOrder tag payload s
  | .remeasure tag payload => Sys2Proof.Machine.execRemeasure tag payload s
  | .dwellSet tag payload => Sys2Proof.Machine.execDwellSet tag payload s
  | .connectHold tag payload => Sys2Proof.Machine.execConnectHold tag payload s
  | .connectCancel tag payload => Sys2Proof.Machine.execConnectCancel tag payload s
  | .isolateBay tag payload => Sys2Proof.Machine.execIsolateBay tag payload s
  | .restoreBay tag payload => Sys2Proof.Machine.execRestoreBay tag payload s
  | .faultMask tag payload => Sys2Proof.Machine.execFaultMask tag payload s
  | .faultClear tag payload => Sys2Proof.Machine.execFaultClear tag payload s
  | .faceResume tag payload => Sys2Proof.Machine.execFaceResume tag payload s
  | .emergencyOpen tag payload => Sys2Proof.Machine.execEmergencyOpen tag payload s
  | .releaseReset tag payload => Sys2Proof.Machine.execReleaseReset tag payload s
  | .fetchEvents tag payload => Sys2Proof.Machine.execFetchEvents tag payload s
  | .fetchEventsRepeat tag payload => Sys2Proof.Machine.execFetchEventsRepeat tag payload s
  | .unknownKind kind tag payload => Sys2Proof.Machine.execUnknownKind kind tag payload s
  | .frameComplete last => Sys2Proof.Machine.execFrameComplete last s
  | .interByteGap => Sys2Proof.Machine.execInterByteGap s
  | .beacon f bytes => Sys2Proof.Machine.execBeacon f bytes s
  | .linkBecomesLost f => Sys2Proof.Machine.execLinkBecomesLost f s
  | .strengthReading f strengths => Sys2Proof.Machine.execStrengthReading f strengths s
  | .turn f => Sys2Proof.Machine.execTurn f s
  | .reportAnswer f bytes => Sys2Proof.Machine.execReportAnswer f bytes s
  | .ack f bytes => Sys2Proof.Machine.execAck f bytes s
  | .busy f bytes => Sys2Proof.Machine.execBusy f bytes s
  | .answerWindowClosed f => Sys2Proof.Machine.execAnswerWindowClosed f s
  | .attentionQueryAnswer f pulled => Sys2Proof.Machine.execAttentionQueryAnswer f pulled s
  | .lineInputChange line level => Sys2Proof.Machine.execLineInputChange line level s
  | .lineFilterExpiry line => Sys2Proof.Machine.execLineFilterExpiry line s
  | .openTravelDeadline f => Sys2Proof.Machine.execOpenTravelDeadline f s
  | .dwellExpiry f => Sys2Proof.Machine.execDwellExpiry f s
  | .minimumReached f => Sys2Proof.Machine.execMinimumReached f s
  | .capDeadline f => Sys2Proof.Machine.execCapDeadline f s
  | .endOfWarning f => Sys2Proof.Machine.execEndOfWarning f s
  | .doorwayDeadline f => Sys2Proof.Machine.execDoorwayDeadline f s
  | .reopenPauseEnd f bay => Sys2Proof.Machine.execReopenPauseEnd f bay s
  | .closeTravelLimit f bay => Sys2Proof.Machine.execCloseTravelLimit f bay s
  | .lockProofDeadline f bay => Sys2Proof.Machine.execLockProofDeadline f bay s
  | .stationLinkByte byte => Sys2Proof.Machine.execStationLinkByte byte s

end Sys2Proof.Machine
end

