-- ==== Sys2Proof/WellFormed.lean ====
section
/-!
DEFINITION. The commands that stand for something outside the part: a frame's payload within its
length byte, a request under the row its payload calls for, a reading of at most twelve cells and a
deadline of a bay number that a bus can address. The machine is total and asks none of this; the
checks say which terms a sender can form.
-/

namespace Sys2Proof

/-- A payload that a length byte can announce (R158). -/
def payloadFits (p : List Byte) : Bool := decide (p.length ≤ 240)

/-- A flag byte that is set: payload length 1, and not 0. -/
def flagSet (p : List Byte) : Bool := decide (p.length = 1) && p.any (· != 0#8)

/-- The kinds that name requests (section 11.2). -/
def requestKind (k : Byte) : Bool := decide (1 ≤ k.toNat ∧ k.toNat ≤ 0x1D)

/-- The record kinds of a LOAD RECORD (section 11.2). -/
def recordKind (k : Byte) : Bool := decide (1 ≤ k.toNat ∧ k.toNat ≤ 5)

/-- A bay number of a Bay Bus (R6, R91). -/
def bayFits (n : Nat) : Bool := decide (n ≤ 31)

/-- The well-formed commands. -/
def Instr.wf : Instr → Bool
  | .powerOn => true
  | .identify _ p => payloadFits p
  | .timeSet _ p => payloadFits p
  | .restart _ p => payloadFits p
  | .loadBegin _ p => payloadFits p
  | .loadRecordBay _ fs => payloadFits (1#8 :: fs)
  | .loadRecordCell _ fs => payloadFits (2#8 :: fs)
  | .consistFirstPart _ code rest => payloadFits (3#8 :: code :: 1#8 :: rest)
  | .consistContinuation _ fs => payloadFits (3#8 :: fs) && fs[1]? != some 1#8
  | .loadRecordStop _ fs => payloadFits (4#8 :: fs)
  | .loadRecordParam _ fs => payloadFits (5#8 :: fs)
  | .loadRecordUnknownKind _ p => payloadFits p && !(p.head?.any recordKind)
  | .loadEnd _ p => payloadFits p && !flagSet p
  | .loadEndEarly _ p => flagSet p
  | .loadAbandon _ p => payloadFits p
  | .statusFace _ p => payloadFits p
  | .statusBays _ p => payloadFits p
  | .readAlignment _ p => payloadFits p
  | .readCounts _ p => payloadFits p
  | .readFaults _ p => payloadFits p
  | .readRelease _ p => payloadFits p
  | .expectConsist _ p => payloadFits p
  | .openOrder _ p => payloadFits p
  | .withdrawOrder _ p => payloadFits p
  | .closeOrder _ p => payloadFits p
  | .remeasure _ p => payloadFits p
  | .dwellSet _ p => payloadFits p
  | .connectHold _ p => payloadFits p
  | .connectCancel _ p => payloadFits p
  | .isolateBay _ p => payloadFits p
  | .restoreBay _ p => payloadFits p
  | .faultMask _ p => payloadFits p
  | .faultClear _ p => payloadFits p
  | .faceResume _ p => payloadFits p
  | .emergencyOpen _ p => payloadFits p
  | .releaseReset _ p => payloadFits p
  | .fetchEvents _ p => payloadFits p && !flagSet p
  | .fetchEventsRepeat _ p => flagSet p
  | .unknownKind k _ p => payloadFits p && !requestKind k
  | .frameComplete _ => true
  | .interByteGap => true
  | .beacon _ _ => true
  | .linkBecomesLost _ => true
  | .strengthReading _ ss => decide (ss.length ≤ 12)
  | .turn _ => true
  | .reportAnswer _ _ => true
  | .ack _ _ => true
  | .busy _ _ => true
  | .answerWindowClosed _ => true
  | .attentionQueryAnswer _ _ => true
  | .lineInputChange _ _ => true
  | .lineFilterExpiry _ => true
  | .openTravelDeadline _ => true
  | .dwellExpiry _ => true
  | .minimumReached _ => true
  | .capDeadline _ => true
  | .endOfWarning _ => true
  | .doorwayDeadline _ => true
  | .reopenPauseEnd _ n => bayFits n
  | .closeTravelLimit _ n => bayFits n
  | .lockProofDeadline _ n => bayFits n
  | .stationLinkByte _ => true

end Sys2Proof
end

