-- ==== Sys2Proof/Safety.lean ====
section
/-!
DEFINITION. What the statements speak of: the frames of the work at one face and of a served request, and
the invariants that every step keeps.
-/

namespace Sys2Proof.Safety

open Sys2Proof.Machine

/-! ### Frames -/

/-- What work at face `f` leaves as it was: time, configuration, link, queue of commands and FIRE; of the
other face everything but its Measurement Record, which the shared Alignment Unit may begin to sample
(R39); of the face its filters, its permit and its fault mask. A connection hold record does not come
into being, the door enable list does not come to stand in a state that allows none (R30), and events are
added at the end of the queue alone (R168). -/
structure Within (f : Face) (s t : State) : Prop where
  time : t.time = s.time
  store : t.store = s.store
  fire : t.fire = s.fire
  receiver : t.receiver = s.receiver
  rx : t.rx = s.rx
  dropped : t.dropped = s.dropped
  discards : t.discards = s.discards
  batch : t.batch = s.batch
  stationOut : t.stationOut = s.stationOut
  freeCount : t.freeCount = s.freeCount
  pending : t.pending = s.pending
  other : { t.face (otherFace f) with meas := (s.face (otherFace f)).meas } = s.face (otherFace f)
  enable : (t.face f).enable = (s.face f).enable
  loop : (t.face f).loop = (s.face f).loop
  permit : (t.face f).permit = (s.face f).permit
  mask : (t.face f).fault.mask = (s.face f).fault.mask
  hold : (t.face f).seq.hold.isSome = true → (s.face f).seq.hold.isSome = true
  list :
    ((s.stateOf f).mayEnable = false → (s.face f).berth.doorList = []) →
      (t.stateOf f).mayEnable = false → (t.face f).berth.doorList = []
  events : s.events <+: t.events
  bounded : s.events.length ≤ Config.queueSize → t.events.length ≤ Config.queueSize
  overrun : s.overrun = true → t.overrun = true

/-- What a command for face `f` leaves as it was: as `Within`, but for the replies and the receive buffer
(R159), the values driven on PERMIT (R154), the face's fault mask and its hold record. -/
structure Leaves (f : Face) (s t : State) : Prop where
  time : t.time = s.time
  store : t.store = s.store
  fire : t.fire = s.fire
  receiver : t.receiver = s.receiver
  discards : t.discards = s.discards
  batch : t.batch = s.batch
  freeCount : t.freeCount = s.freeCount
  pending : t.pending = s.pending
  other :
    { t.face (otherFace f) with
      meas := (s.face (otherFace f)).meas
      permit := (s.face (otherFace f)).permit } = s.face (otherFace f)
  enable : (t.face f).enable = (s.face f).enable
  loop : (t.face f).loop = (s.face f).loop
  events : s.events <+: t.events

/-- The reply of a request served at the front of the receive buffer (R159, R160): one frame more is
sent, with the status, the events waiting and the flags, and the request's frame leaves the buffer. OVERRUN
is carried where it stood before or where the request's own events were lost. -/
structure Replied (fr : Machine.Frame) (st : Status) (fields : List Byte) (s t : State) : Prop where
  dropped : t.dropped = false
  overrun : t.overrun = false
  rx : t.rx = s.rx.drop 1
  sent :
    ∃ o : Bool, (s.overrun = true → o = true) ∧
      t.stationOut = s.stationOut ++
        [stationFrame fr.kind fr.tag
          (be1 st.number ++ be1 t.events.length ++ be1 (yesNo s.dropped + 2 * yesNo o) ++ fields)]

/-- A request served without any effect but its reply: everything else is as it was (R160). -/
def OnlyReplied (fr : Machine.Frame) (st : Status) (fields : List Byte) (s t : State) : Prop :=
  t =
    { s with
      stationOut := s.stationOut ++
        [stationFrame fr.kind fr.tag
          (be1 st.number ++ be1 s.events.length ++ be1 (yesNo s.dropped + 2 * yesNo s.overrun) ++ fields)]
      dropped := false
      overrun := false
      rx := s.rx.drop 1 }

/-- A request finds configuration in force (R2). -/
def Configured (s : State) : Prop := s.store.load = .idle ∧ s.store.valid = true

/-- The value driven on PERMIT is the composition of its five inputs at both faces (R153, R154). -/
def Composed (s : State) : Prop := ∀ f, (s.face f).permit = s.permitComposed f

/-- The oldest frame held in the receive buffer is `fr` (R159). -/
def Front (fr : Machine.Frame) (s : State) : Prop := s.rx.head? = some fr

/-! ### The requests as frames (sections 10.3 and 11.2) -/

/-- The Station Link frame of a request. The other commands, and an UNKNOWN_KIND command whose kind names
a request, have none. -/
def requestFrame : Instr → Option Machine.Frame
  | .identify tag p => some ⟨0x01#8, tag, p⟩
  | .timeSet tag p => some ⟨0x02#8, tag, p⟩
  | .restart tag p => some ⟨0x03#8, tag, p⟩
  | .loadBegin tag p => some ⟨0x04#8, tag, p⟩
  | .loadRecordBay tag fs => some ⟨0x05#8, tag, 1#8 :: fs⟩
  | .loadRecordCell tag fs => some ⟨0x05#8, tag, 2#8 :: fs⟩
  | .consistFirstPart tag code rest => some ⟨0x05#8, tag, 3#8 :: code :: 1#8 :: rest⟩
  | .consistContinuation tag fs => some ⟨0x05#8, tag, 3#8 :: fs⟩
  | .loadRecordStop tag fs => some ⟨0x05#8, tag, 4#8 :: fs⟩
  | .loadRecordParam tag fs => some ⟨0x05#8, tag, 5#8 :: fs⟩
  | .loadRecordUnknownKind tag p => some ⟨0x05#8, tag, p⟩
  | .loadEnd tag p => some ⟨0x06#8, tag, p⟩
  | .loadEndEarly tag p => some ⟨0x06#8, tag, p⟩
  | .loadAbandon tag p => some ⟨0x07#8, tag, p⟩
  | .statusFace tag p => some ⟨0x08#8, tag, p⟩
  | .statusBays tag p => some ⟨0x09#8, tag, p⟩
  | .readAlignment tag p => some ⟨0x0A#8, tag, p⟩
  | .readCounts tag p => some ⟨0x0B#8, tag, p⟩
  | .readFaults tag p => some ⟨0x0C#8, tag, p⟩
  | .readRelease tag p => some ⟨0x0D#8, tag, p⟩
  | .expectConsist tag p => some ⟨0x0E#8, tag, p⟩
  | .openOrder tag p => some ⟨0x0F#8, tag, p⟩
  | .withdrawOrder tag p => some ⟨0x10#8, tag, p⟩
  | .closeOrder tag p => some ⟨0x11#8, tag, p⟩
  | .remeasure tag p => some ⟨0x12#8, tag, p⟩
  | .dwellSet tag p => some ⟨0x13#8, tag, p⟩
  | .connectHold tag p => some ⟨0x14#8, tag, p⟩
  | .connectCancel tag p => some ⟨0x15#8, tag, p⟩
  | .isolateBay tag p => some ⟨0x16#8, tag, p⟩
  | .restoreBay tag p => some ⟨0x17#8, tag, p⟩
  | .faultMask tag p => some ⟨0x18#8, tag, p⟩
  | .faultClear tag p => some ⟨0x19#8, tag, p⟩
  | .faceResume tag p => some ⟨0x1A#8, tag, p⟩
  | .emergencyOpen tag p => some ⟨0x1B#8, tag, p⟩
  | .releaseReset tag p => some ⟨0x1C#8, tag, p⟩
  | .fetchEvents tag p => some ⟨0x1D#8, tag, p⟩
  | .fetchEventsRepeat tag p => some ⟨0x1D#8, tag, p⟩
  | .unknownKind kind tag p => if namesRequest kind then none else some ⟨kind, tag, p⟩
  | _ => none

/-- The payload lengths laid down for a kind other than LOAD RECORD (section 11.2, R172). -/
def lawfulLengths (kind : Nat) : List Nat :=
  if kind = 0x01 ∨ kind = 0x03 ∨ kind = 0x04 ∨ kind = 0x07 then [0]
  else if kind = 0x06 ∨ kind = 0x1D then [1]
  else if kind = 0x02 then [4]
  else if kind = 0x09 ∨ kind = 0x0F ∨ kind = 0x10 ∨ kind = 0x16 ∨ kind = 0x17 ∨ kind = 0x18 ∨ kind = 0x19 then [2]
  else if kind = 0x0E then [3, 5]
  else if kind = 0x13 then [6]
  else if kind = 0x14 then [5]
  else [1]

/-- The payload lengths laid down for a LOAD RECORD of record kind 1 to 5 (section 11.2, R172): a CONSIST whose
third byte is 1 is a first part, any other a continuation, with 1 to 24 door entries of 6 bytes. -/
def recordLengths (kind : Byte) (third : Option Byte) : List Nat :=
  if kind = 1#8 then [12]
  else if kind = 4#8 then [9]
  else if kind = 3#8 then (List.range 24).map fun e => (if third = some 1#8 then 10 else 3) + 6 * (e + 1)
  else [7]

/-- The payload length of a LOAD RECORD is lawful (R172): for a record kind outside 1 to 5 any from 1 up. -/
def recordLengthFits : List Byte → Bool
  | [] => false
  | kind :: rest =>
    decide (kind = 0#8 ∨ 5 < kind.toNat)
      || (recordLengths kind ((kind :: rest)[2]?)).contains (kind :: rest).length

/-- The payload length of a request frame is one of those laid down (R172). -/
def lengthFits (fr : Machine.Frame) : Bool :=
  if fr.kind = 0x05#8 then recordLengthFits fr.payload
  else (lawfulLengths fr.kind.toNat).contains fr.payload.length

/-- The kinds whose payload begins with a face: STATUS FACE to RELEASE RESET. -/
def carriesFace (kind : Byte) : Bool := decide (0x08 ≤ kind.toNat ∧ kind.toNat ≤ 0x1C)

/-- The kinds that need configuration (R2): STATUS BAYS to RELEASE RESET. -/
def needsConfiguration (kind : Byte) : Bool := decide (0x09 ≤ kind.toNat ∧ kind.toNat ≤ 0x1C)

/-- The face that a request frame's first payload byte names. -/
def frameFace (fr : Machine.Frame) : Option Face := faceOfByte (fr.payload.getD 0 0xFF#8)

/-- Commands carried out one after another, each on the state the one before it leaves. -/
def runAll : List Instr → State → Option State
  | [], s => some s
  | c :: cs, s =>
    match exec c s with
    | .next t => runAll cs t
    | _ => none

/-- An event record is the next to join the queue, where the queue has room (R168). -/
def NextEvent (x : EventRecord) (s t : State) : Prop :=
  s.events.length < Config.queueSize → (s.events ++ [x]) <+: t.events

/-- An event record stands in the queue, unless the queue is full (R168). -/
def Posted (x : EventRecord) (t : State) : Prop := t.events.length < Config.queueSize → x ∈ t.events

/-! ### What the rules ask, in words of their own -/

/-- An answer that begins now begins within a transaction's window (R91): the counter does not stand past
the window's end. That one at the very end is within is the model's choice
(notes/assumptions/18.md). -/
def InWindow (tr : Trans) (s : State) : Prop :=
  (s.time - tr.windowEnd).toNat = 0 ∨ 2147483648 ≤ (s.time - tr.windowEnd).toNat

/-- A REPORT answer that bay `n`'s transaction awaits and that begins in its window (R91, R93). -/
def Answers (f : Face) (n : Nat) (r : Report) (bs : List Byte) (s : State) : Prop :=
  ∃ tr, (s.face f).bus.outstanding = some tr ∧ tr.kind.reportFrom = some n ∧ InWindow tr s
    ∧ reportOf n bs = some r

/-- A report leaves the bay's qualified gap state as it stands (R112): its gap raw agrees with it. -/
def GapSteady (r : Report) (e : BayEntry) : Prop := ∀ q, e.gap = some q → r.gapActive = q.active

/-- A report changes the bay's qualified gap state, by row 6 of R112. -/
def GapTurns (r : Report) (e : BayEntry) (qualify : Nat) (now : Time) : Prop :=
  ∃ q st, e.gap = some q ∧ r.gapActive ≠ q.active ∧ q.start = some st ∧ (∀ c, q.lastCount = some c → c = r.count)
    ∧ qualify ≤ (now - st).toNat

/-- The level of a beam after a report's events (R116): that of its last event, or as it stood. -/
def beamAfter (x : Side) (was : Bool) (events : List BeamEvent) : Bool :=
  ((events.filter fun v => v.beam = x).getLast?.map fun v => !v.make).getD was

/-- The bay polled after bay `n` (R104): the next configured bay, or the lowest after the highest. -/
def polledAfter (n : Nat) (bays : List BayEntry) : Option Nat :=
  ((bays.map (·.num)).find? (fun m => decide (n < m))).or (bays.map (·.num)).head?

/-- The transaction, if any, that a master with an empty gap makes as its turn's own, while no search runs
and no query is due (R96, R104): a poll of the bay at the cursor. -/
def PollsNext (n : Nat) (b : Bus) : Prop :=
  b.gap = [] ∧ b.cursor = some n ∧ n < 32 ∧ b.search = .idle ∧ b.queryNext = false ∧ b.polls < 8

/-- The conditions of R69 for a pending order, but for the order itself. -/
def MayOpen (f : Face) (s : State) : Prop :=
  s.stateOf f = .berthed ∧ (s.face f).seq.grant ≠ []
    ∧ (∀ n ∈ (s.face f).seq.grant, ∀ e, s.bay f n = some e → e.isolated = false)
    ∧ (s.face f).enable.level = true
    ∧ ((s.params f).trainConsent = 0
        ∨ ((s.face f).berth.present = false ∧ FlagSet.has (s.face f).fault.mask .link = true)
        ∨ ((s.face f).berth.present = true ∧ (s.face f).berth.latest.any (·.ready) = true))

/-- A pending order would be accepted (R69), at a face that does not pass on at once: it is not vacant, and some
granted bay is not open yet. -/
def WouldOpen (f : Face) (id : Byte) (s : State) : Prop :=
  (s.face f).seq.slot = some id ∧ MayOpen f s ∧ (s.face f).berth.vacant = false
    ∧ ∃ n ∈ (s.face f).seq.grant, (s.bay f n).any BayEntry.leafOpen = false

/-- The opening that an accepted order makes of the state `s` (R70): the id is accepted, the door enable list is
the record's, every granted bay is ordered OPEN, the open travel deadline runs and the permit is withdrawn. -/
structure Opened (f : Face) (id : Byte) (s t : State) : Prop where
  state : t.stateOf f = .opening
  slot : (t.face f).seq.slot = none
  accepted : (t.face f).seq.lastAccepted = some id
  ids : (t.face f).seq.acceptedIds = insertAsc id.toNat (s.face f).seq.acceptedIds
  deadline : (t.face f).seq.openTravel = some (s.time + sec (s.params f).openTravel)
  failed : (t.face f).seq.failed = []
  list :
    (t.face f).berth.doorList = if (s.face f).meas.status = .current then (s.face f).meas.doorList else []
  ordered :
    ∀ n ∈ (s.face f).seq.grant, ∀ e, t.bay f n = some e →
      e.inFlight = some .openLeaf ∨ e.waiting = some .openLeaf
  permit : (t.face f).permit = false
  event : Posted ⟨.orderAccepted, some f, none, s.time, [id.toNat]⟩ t

/-- The numeric face parameters of R11's table: number, least value, greatest value, and where it stands. -/
def parameterTable : List (Nat × Nat × Nat × (Params → Nat)) :=
  [(1, 100, 900, Params.strengthFloor), (2, 500, 1500, Params.minimumOverlap),
   (3, 0, 1, Params.partAllowance), (4, 0, 1, Params.trainConsent), (5, 0, 1, Params.autoClose),
   (6, 5, 180, Params.dwellBase), (7, 0, 1, Params.dwellMode), (8, 2, 20, Params.extensionStep),
   (9, 0, 12, Params.maxExtensions), (10, 1, 5, Params.flowWindow), (11, 1, 8, Params.warningPeriod),
   (12, 0, 5, Params.closeRetries), (13, 1, 5, Params.reopenPause), (14, 0, 10, Params.doorwayHold),
   (15, 3, 10, Params.openTravel), (16, 500, 3000, Params.lockProof), (17, 100, 2000, Params.gapQualify),
   (18, 50, 1500, Params.pairingWindow), (19, 0, 1, Params.loopSense)]

/-- The bytes of a door entry in a CONSIST record (section 11.2). -/
def doorEntry (d : Door) : List Byte := be4 d.offset ++ be2 d.width

/-- A door entry's values fit its six bytes. -/
def doorFits (d : Door) : Prop := d.offset < 4294967296 ∧ d.width < 65536

/-- The ranges of a door entry (R8). -/
def doorInRange (d : Door) : Prop := d.offset ≤ 240000 ∧ 900 ≤ d.width ∧ d.width ≤ 2000

/-- Each two neighbours of a list stand in a relation. -/
def Neighbours {α : Type} (r : α → α → Prop) (xs : List α) : Prop :=
  ∀ i, ∀ x y, xs[i]? = some x → xs[i + 1]? = some y → r x y

/-- The checks of one consist at LOAD END (R13): its doors all there, ascending and within the train. -/
def ConsistSound (c : Consist) : Prop :=
  c.doorCount ≤ c.doors.length ∧ Neighbours (fun d e => d.offset < e.offset) c.doors
    ∧ ∀ d ∈ c.doors, d.offset + d.width ≤ c.length

/-- The platform checks of LOAD END (R13): every consist sound, and a consist for each stop mark. -/
def PlatformSound (st : Store) : Prop :=
  (∀ c ∈ st.consists, ConsistSound c)
    ∧ ∀ f, ∀ m ∈ (st.cfg.get f).stops, ∃ c ∈ st.consists, c.code = m.code

/-- The face checks of LOAD END (R13): some bay, the bays 200 mm apart, the cell indices without a gap,
at least four cells, and the cells 500 to 3,000 mm apart. -/
def FaceSound (c : FaceConfig) : Prop :=
  c.bays ≠ [] ∧ Neighbours (fun g h : BayGeometry => g.right + 200 ≤ h.left) c.bays
    ∧ c.cells.map (·.index) = List.range c.cells.length ∧ 4 ≤ c.cells.length
    ∧ Neighbours (fun x y : Cell => x.centre + 500 ≤ y.centre ∧ y.centre ≤ x.centre + 3000) c.cells

/-- The first of a list's elements that fails a test, and its place. -/
def FirstAt {α : Type} (ok : α → Prop) (xs : List α) (i : Nat) (x : α) : Prop :=
  xs[i]? = some x ∧ ¬ok x ∧ ∀ j, ∀ y, j < i → xs[j]? = some y → ok y

/-- The first of a list's elements that stands wrongly to the one before it, and its place. -/
def FirstPairAt {α : Type} (r : α → α → Prop) (xs : List α) (i : Nat) (y : α) : Prop :=
  (∃ j x, i = j + 1 ∧ xs[j]? = some x ∧ xs[i]? = some y ∧ ¬r x y)
    ∧ ∀ j, ∀ x z, j + 1 < i → xs[j]? = some x → xs[j + 1]? = some z → r x z

/-- A consist fails a check of LOAD END, the first in the order 1, 2, 3, which names a door (R13). -/
def ConsistFails (c : Consist) (check : Nat) (door : Option Nat) : Prop :=
  check = 1 ∧ door = none ∧ c.doors.length < c.doorCount
    ∨ c.doorCount ≤ c.doors.length ∧ check = 2
      ∧ (∃ i d, door = some (i + 1) ∧ FirstPairAt (fun x y : Door => x.offset < y.offset) c.doors i d)
    ∨ c.doorCount ≤ c.doors.length ∧ check = 3 ∧ Neighbours (fun x y => x.offset < y.offset) c.doors
      ∧ ∃ i d, door = some (i + 1) ∧ FirstAt (fun x : Door => x.offset + x.width ≤ c.length) c.doors i d

/-- The platform check that fails first (R13): all three checks consist by consist, lowest code first, and
then the stop marks of face A and of face B. -/
def PlatformFails (st : Store) (x : LoadFail) : Prop :=
  (∃ i c check door, FirstAt ConsistSound st.consists i c ∧ ConsistFails c check door
      ∧ x = ⟨check, 3, none, some c.code, door⟩)
    ∨ (∀ c ∈ st.consists, ConsistSound c)
      ∧ ∃ f i m, FirstAt (fun m : StopMark => ∃ c ∈ st.consists, c.code = m.code) (st.cfg.get f).stops i m
        ∧ (f = .b → ∀ m ∈ st.cfg.a.stops, ∃ c ∈ st.consists, c.code = m.code)
        ∧ x = ⟨4, 4, some f, some m.code, none⟩

/-- The check of a face that fails first (R13): 5 to 9 at face A, 10 to 14 at face B. -/
def FaceFails (st : Store) (f : Face) (x : LoadFail) : Prop :=
  let c := st.cfg.get f
  let base := if f = .a then 5 else 10
  let apart := fun g h : BayGeometry => g.right + 200 ≤ h.left
  let spaced := fun x y : Cell => x.centre + 500 ≤ y.centre ∧ y.centre ≤ x.centre + 3000
  c.bays = [] ∧ x = ⟨base, 1, some f, none, none⟩
    ∨ (∃ i h, FirstPairAt apart c.bays i h ∧ x = ⟨base + 1, 1, some f, some h.num, none⟩)
    ∨ c.bays ≠ [] ∧ Neighbours apart c.bays
      ∧ ((∃ i y, c.cells[i]? = some y ∧ y.index ≠ i ∧ (∀ j z, j < i → c.cells[j]? = some z → z.index = j)
            ∧ x = ⟨base + 2, 2, some f, some i, none⟩)
          ∨ c.cells.map (·.index) = List.range c.cells.length
            ∧ (c.cells.length < 4 ∧ x = ⟨base + 3, 2, some f, none, none⟩
              ∨ 4 ≤ c.cells.length
                ∧ ∃ i y, FirstPairAt spaced c.cells i y ∧ x = ⟨base + 4, 2, some f, some y.index, none⟩))

/-- The failure that LOAD END reports (R14, R15): the platform's first, then without the early flag face A's
first and else face B's; with it, where neither face passes, that of the first face that is not unloaded, or
of face A where both are. -/
def LoadFailure (st : Store) (early : Bool) (x : LoadFail) : Prop :=
  PlatformFails st x
    ∨ PlatformSound st ∧ early = false ∧ (FaceFails st .a x ∨ FaceSound st.cfg.a ∧ FaceFails st .b x)
    ∨ PlatformSound st ∧ early = true ∧ ¬FaceSound st.cfg.a ∧ ¬FaceSound st.cfg.b
      ∧ if (st.cfg.a.bays = [] ∧ st.cfg.a.cells = []) ∧ ¬(st.cfg.b.bays = [] ∧ st.cfg.b.cells = [])
        then FaceFails st .b x else FaceFails st .a x

/-! ### The Bay Bus -/

/-- The frames that send an entry of the dispatch list, each with its check (section 11.3, R100). -/
def entryFrames : DispatchEntry → List (List Byte)
  | .unicast n .openLeaf => [withCheck8 [0xC1#8, BitVec.ofNat 8 (n % 32)], withCheck8 [0xC2#8, 1#8]]
  | .unicast n .closeLeaf => [withCheck8 [0xC1#8, BitVec.ofNat 8 (n % 32)], withCheck8 [0xC2#8, 2#8]]
  | .followUp n => [withCheck8 [0xC1#8, BitVec.ofNat 8 (n % 32)], withCheck8 [0xC2#8, 4#8]]
  | .groupClose => [withCheck8 [0xC1#8, 0xA0#8], withCheck8 [0xC2#8, 2#8]]
  | .groupWarn on =>
    [withCheck8 [0xC1#8, 0xA0#8], withCheck8 [0xC2#8, 3#8], withCheck8 [0xC3#8, if on then 1#8 else 0#8]]

/-- What the outstanding transaction is while an entry's answer window stands open (R91, R96). -/
def entryKind : DispatchEntry → TransKind
  | .unicast n o => .order n o
  | .followUp n => .followUp n
  | .groupClose => .groupClose
  | .groupWarn on => .groupWarn on

/-- How a master goes on at `now` in a turn that has begun, its bus being `b` between two transactions (R96,
R104): the next entry of the gap goes out, or after the last one the turn's own poll. -/
def GoesOn (now : Time) (survey : Bool) (b c : Bus) : Prop :=
  (∀ x rest, b.gap = x :: rest → c =
      { b with
        gap := rest
        out := b.out ++ entryFrames x
        outstanding := some ⟨entryKind x, false, now + 3#32⟩ })
    ∧ ∀ n, PollsNext n b → c =
      { b with
        turning := false
        out := b.out ++ [withCheck8 [0xC1#8, BitVec.ofNat 8 n], withCheck8 [0xC2#8, 4#8]]
        outstanding := some ⟨.poll n survey, false, now + 3#32⟩ }

/-! ### Reading the bodies of replies back (section 11.2) -/

/-- A field of `w` bytes at an offset reads as a value that fits it, or as absent, all-ones. -/
def Reads (body : List Byte) (off w : Nat) : Option Nat → Prop
  | none => numAt body off w = 256 ^ w - 1
  | some n => n < 256 ^ w → numAt body off w = n

/-- A field of `w` bytes at an offset reads as a set of numbers, bit n for n. -/
def ReadsSet (body : List Byte) (off w : Nat) (ns : List Nat) : Prop :=
  ∀ n, n < 8 * w → ((numAt body off w).testBit n = true ↔ n ∈ ns)

/-- The bytes from an offset on read as a list of train doors: byte j, bit b for door 8j + b + 1. -/
def ReadsDoors (body : List Byte) (off : Nat) (doors : List Nat) : Prop :=
  ∀ k, k < 48 → ((byteAt body (off + k / 8)).testBit (k % 8) = true ↔ k + 1 ∈ doors)

/-- A connection hold record at an offset (R62, R80): minimum, cap, accumulated time, counting start and the
time that remains to the cap deadline. -/
def ReadsHold (body : List Byte) (off : Nat) (now : Time) (h : Option HoldRecord) : Prop :=
  Reads body off 1 (h.map (·.minimum)) ∧ Reads body (off + 1) 2 (h.map (·.cap))
    ∧ Reads body (off + 3) 4 (h.map (·.accumulated))
    ∧ Reads body (off + 7) 4 ((h.bind (·.countingStart)).map (·.toNat))
    ∧ Reads body (off + 11) 4 (remaining now (h.bind (·.capDeadline)))

/-- An expectation at an offset (R35): its code and its train number. -/
def ReadsExpectation (body : List Byte) (off : Nat) (x : Option Expectation) : Prop :=
  Reads body off 1 (x.map (·.code)) ∧ Reads body (off + 1) 2 ((x.bind (·.train)).map (·.toNat))

/-- The reply body of STATUS FACE, field by field (R163, R62, R19, R109, R122, R123, R138, R151 to R157). -/
def FaceBody (s : State) (f : Face) (body : List Byte) : Prop :=
  let b := s.face f
  let r := b.seq
  body.length = 158
    ∧ Reads body 0 1 (some r.state.number) ∧ Reads body 1 1 (r.substate.map (·.number))
    ∧ Reads body 2 1 (r.slot.map (·.toNat)) ∧ Reads body 3 1 (r.lastAccepted.map (·.toNat))
    ∧ (∀ id, id < 256 → ((byteAt body (4 + id / 8)).testBit (id % 8) = true ↔ id ∈ r.acceptedIds))
    ∧ ReadsSet body 36 4 r.grant
    ∧ Reads body 40 1 (r.dwell.map (·.base)) ∧ Reads body 41 1 (r.dwell.map (·.mode))
    ∧ Reads body 42 1 (r.dwell.map (·.step)) ∧ Reads body 43 1 (some (yesNo r.override))
    ∧ Reads body 44 4 (remaining s.time r.dwellDeadline) ∧ Reads body 48 1 (some r.extensions)
    ∧ Reads body 49 4 (r.openSince.map (·.toNat)) ∧ Reads body 53 4 (r.openTravel.map (·.toNat))
    ∧ ReadsSet body 57 4 r.failed ∧ ReadsHold body 61 s.time r.hold
    ∧ Reads body 76 1 (r.closingKind.map (·.number)) ∧ Reads body 77 1 (some (yesNo r.warning))
    ∧ Reads body 78 4 (r.endOfWarning.map (·.toNat)) ∧ Reads body 82 4 (r.doorway.map (·.toNat))
    ∧ ReadsHold body 86 s.time (s.face (otherFace f)).seq.hold
    ∧ Reads body 101 1 (some (if b.berth.present then 0 else 1))
    ∧ Reads body 102 1 (b.berth.latest.map (·.code.toNat)) ∧ Reads body 103 2 (b.berth.latest.map (·.train.toNat))
    ∧ Reads body 105 1 (b.berth.latest.map fun x => if x.moving then 1 else 2)
    ∧ Reads body 106 1 (b.berth.latest.map fun x => yesNo x.doorsClosed)
    ∧ Reads body 107 1 (b.berth.latest.map fun x => yesNo x.ready)
    ∧ Reads body 108 1 (b.berth.latest.map fun x => yesNo x.emergency)
    ∧ Reads body 109 4 (b.berth.lastGood.map fun t => (s.time - t).toNat)
    ∧ Reads body 113 1 (some (yesNo b.berth.vacant)) ∧ ReadsDoors body 114 b.berth.doorList
    ∧ Reads body 120 1 (b.berth.consist.map (·.1))
    ∧ Reads body 121 1 (some (sourceNumber (b.berth.consist.map (·.2))))
    ∧ ReadsExpectation body 122 b.berth.staged ∧ ReadsExpectation body 125 b.berth.active
    ∧ Reads body 128 4 (some (b.bays.map fun e => (e.beams.map (·.boarded)).getD 0).sum)
    ∧ Reads body 132 4 (some (b.bays.map fun e => (e.beams.map (·.alighted)).getD 0).sum)
    ∧ Reads body 136 4 (b.sensing.lastPassage.map (·.toNat))
    ∧ Reads body 140 1 (some (b.bays.filter (·.gapIsActive)).length)
    ∧ Reads body 141 1 (some b.release.phase.number)
    ∧ (∀ c : Cause, ((byteAt body 142).testBit (c.number - 1) = true ↔ b.release.has c = true))
    ∧ ReadsSet body 143 4 b.release.pulled
    ∧ (∀ fl : Flag, ((byteAt body 147).testBit (fl.number - 1) = true ↔ (b.fault.flags.get fl).isSome = true))
    ∧ Reads body 148 1 (some b.fault.mask.toNat) ∧ Reads body 149 1 (some (yesNo b.fault.summary))
    ∧ Reads body 150 1 (some (yesNo b.enable.level)) ∧ Reads body 151 1 (some (yesNo b.loop.level))
    ∧ Reads body 152 1 (some (yesNo s.fire.level)) ∧ Reads body 153 1 (some (yesNo (s.loopClosed f)))
    ∧ Reads body 154 1 (some (yesNo s.fireActive)) ∧ Reads body 155 1 (some (yesNo b.permit))
    ∧ Reads body 156 1 (some (yesNo (s.releaseActive f))) ∧ Reads body 157 1 (some (yesNo (s.staffAlarm f)))

/-- A report at an offset: its fields as the REPORT answer carries them (section 11.3), then its receipt
time; absent, one byte of ones. -/
def ReadsReport (body : List Byte) (off : Nat) : Option (Report × Time) → Prop
  | none => Reads body off 1 none
  | some (r, since) =>
    byteAt body off =
        r.leaf.number + 8 * yesNo r.lock + 16 * yesNo r.obstacle + 32 * yesNo r.pulled
          + 64 * yesNo r.gapActive + 128 * yesNo r.attention
      ∧ (r.count < 16 → r.events.length ≤ 4 → byteAt body (off + 1) = r.count + 16 * r.events.length)
      ∧ (∀ i v, r.events[i]? = some v → v.age < 1024 →
          numAt body (off + 2 + 2 * i) 2 = 32768 * v.beam.number + 16384 * yesNo v.make + v.age)
      ∧ numAt body (off + 2 + 2 * r.events.length) 4 = since.toNat

/-- The bytes that a report takes. -/
def reportSize : Option (Report × Time) → Nat
  | none => 1
  | some (r, _) => 6 + 2 * r.events.length

/-- One entry of STATUS BAYS at an offset (R163, R95, R109, R81, R89). The phase deadline of a closing entry
is the lock proof deadline or the end of the pause, or else the open travel limit. -/
def EntryBody (s : State) (f : Face) (e : BayEntry) (body : List Byte) (off : Nat) : Prop :=
  let q := off + 9 + reportSize e.report
  Reads body off 1 (some e.num) ∧ Reads body (off + 1) 1 (e.cls.map (·.number))
    ∧ Reads body (off + 2) 1 (some (yesNo e.granted)) ∧ Reads body (off + 3) 1 (some (yesNo e.isolated))
    ∧ Reads body (off + 4) 1 (e.inFlight.map fun o => match o with | .openLeaf => 1 | .closeLeaf => 2)
    ∧ Reads body (off + 5) 1 (e.waiting.map fun o => match o with | .openLeaf => 1 | .closeLeaf => 2)
    ∧ Reads body (off + 6) 1 (some (yesNo e.busyHold)) ∧ Reads body (off + 7) 1 (some e.miss)
    ∧ Reads body (off + 8) 1 (some (yesNo e.silent)) ∧ ReadsReport body (off + 9) e.report
    ∧ Reads body q 1 (e.gap.map fun x => yesNo x.active)
    ∧ Reads body (q + 1) 4 ((e.gap.bind (·.since)).map (·.toNat))
    ∧ Reads body (q + 5) 4 ((e.gap.bind (·.start)).map (·.toNat))
    ∧ Reads body (q + 9) 1 (e.gap.bind (·.lastCount))
    ∧ Reads body (q + 10) 1 (e.beams.map fun d => yesNo d.brokenA)
    ∧ Reads body (q + 11) 1 (e.beams.map fun d => yesNo d.brokenB)
    ∧ Reads body (q + 12) 1 (e.beams.map (·.state.number))
    ∧ Reads body (q + 13) 4 ((e.beams.bind (·.firstBreak)).map (·.toNat))
    ∧ Reads body (q + 17) 1 ((e.beams.bind (·.entrySide)).map (·.number))
    ∧ Reads body (q + 18) 4 ((e.beams.bind (·.lastEdge)).map (·.toNat))
    ∧ Reads body (q + 22) 1 (e.beams.map fun d => yesNo (d.brokenA || d.brokenB))
    ∧ Reads body (q + 23) 1 ((s.entry f e.num).map (·.phase.number))
    ∧ Reads body (q + 24) 1 ((s.entry f e.num).map fun x => min 255 x.retries)
    ∧ Reads body (q + 25) 4 (((s.entry f e.num).bind fun x => x.deadline.orElse fun _ => x.travel).map (·.toNat))
    ∧ Reads body (q + 29) 1 ((s.entry f e.num).map fun x => yesNo x.repeated)
    ∧ Reads body (q + 30) 1 (some (min 255 e.surveyPolls))

/-- The bytes that an entry of STATUS BAYS takes: 9 before its report and 31 behind it. -/
def entrySize (e : BayEntry) : Nat := 40 + reportSize e.report

/-- The reply body of STATUS BAYS from a bay number on (R163): how many entries it carries, at most four, each of
them at the place that the lengths of those before it give, and at its end the bay to ask for next, the cursor and
the search. -/
def BaysBody (s : State) (f : Face) (first : Nat) (body : List Byte) : Prop :=
  let shown := (s.face f).bays.filter fun e => decide (first ≤ e.num)
  byteAt body 0 = min 4 shown.length
    ∧ (∀ i e, i < 4 → shown[i]? = some e → EntryBody s f e body (1 + ((shown.take i).map entrySize).sum))
    ∧ body.length = 6 + ((shown.take 4).map entrySize).sum
    ∧ Reads body (body.length - 5) 1 ((shown[4]?).map (·.num))
    ∧ Reads body (body.length - 4) 1 (s.face f).bus.cursor
    ∧ match (s.face f).bus.search with
      | .idle => byteAt body (body.length - 3) = 0 ∧ Reads body (body.length - 2) 2 none
      | .lower base mask =>
        byteAt body (body.length - 3) = 1 ∧ Reads body (body.length - 2) 1 (some base)
          ∧ Reads body (body.length - 1) 1 (some mask)
      | .upper base mask =>
        byteAt body (body.length - 3) = 1 ∧ Reads body (body.length - 2) 1 (some base)
          ∧ Reads body (body.length - 1) 1 (some mask)
      | .hit a =>
        byteAt body (body.length - 3) = 1 ∧ Reads body (body.length - 2) 1 (some a)
          ∧ Reads body (body.length - 1) 1 none

/-- The reply body of READ ALIGNMENT (R40, R42): each field in its order, the run, the two class lists and
the fields behind them at the places that the lengths before them give. -/
def AlignmentBody (m : Measurement) (body : List Byte) : Prop :=
  let r := 24 + 4 * m.run.length
  let d := r + 10 + 2 * (m.bayClasses.map (·.length)).getD 0
  let z := d + 1 + 2 * (m.doorClasses.map (·.length)).getD 0
  body.length = z + 25
    ∧ Reads body 0 1 (some m.status.number) ∧ Reads body 1 1 m.consist
    ∧ Reads body 2 1 (some (sourceNumber m.source)) ∧ Reads body 3 2 m.antenna ∧ Reads body 5 4 m.mark
    ∧ Reads body 9 2 m.tolerance ∧ Reads body 11 4 (m.requestTime.map (·.toNat))
    ∧ Reads body 15 4 (m.startTime.map (·.toNat)) ∧ Reads body 19 1 (some m.samples)
    ∧ Reads body 20 1 (some m.weak) ∧ Reads body 21 1 (some m.ghost) ∧ Reads body 22 1 (some m.range)
    ∧ Reads body 23 1 (some m.run.length)
    ∧ (∀ i x, m.run[i]? = some x → Reads body (24 + 4 * i) 4 (some x))
    ∧ Reads body r 4 m.front
    ∧ (m.error = none → Reads body (r + 4) 4 none)
    ∧ (∀ e, m.error = some e → numAt body (r + 4) 4 = (e % 4294967296).toNat)
    ∧ Reads body (r + 8) 1 (m.verdict.map (·.number))
    ∧ (m.bayClasses = none → Reads body (r + 9) 1 none)
    ∧ (∀ cs, m.bayClasses = some cs → Reads body (r + 9) 1 (some cs.length)
        ∧ ∀ i c, cs[i]? = some c → Reads body (r + 10 + 2 * i) 1 (some c.cls.number)
          ∧ Reads body (r + 11 + 2 * i) 1 c.door)
    ∧ (m.doorClasses = none → Reads body d 1 none)
    ∧ (∀ cs, m.doorClasses = some cs → Reads body d 1 (some cs.length)
        ∧ ∀ i c, cs[i]? = some c → Reads body (d + 1 + 2 * i) 1 (some c.cls.number)
          ∧ Reads body (d + 2 + 2 * i) 1 c.bay)
    ∧ ReadsSet body z 4 m.grant ∧ ReadsDoors body (z + 4) m.doorList
    ∧ ReadsSet body (z + 10) 4 m.evacuation ∧ ReadsDoors body (z + 14) m.evacDoors
    ∧ Reads body (z + 20) 4 (m.completion.map (·.toNat)) ∧ Reads body (z + 24) 1 (m.abandon.map (·.number))

/-- The reply body of READ COUNTS (R121): the face's times and sums, the bays with beams and their counts. -/
def CountsBody (b : FaceBlock) (body : List Byte) : Prop :=
  let fitted := b.bays.filter fun e => e.beams.isSome
  Reads body 0 4 (b.sensing.lastPassage.map (·.toNat)) ∧ Reads body 4 4 (b.sensing.clearedAt.map (·.toNat))
    ∧ Reads body 8 4 (some (b.bays.map fun e => (e.beams.map (·.boarded)).getD 0).sum)
    ∧ Reads body 12 4 (some (b.bays.map fun e => (e.beams.map (·.alighted)).getD 0).sum)
    ∧ ReadsSet body 16 4 (fitted.map (·.num)) ∧ body.length = 20 + 6 * fitted.length
    ∧ ∀ i e d, fitted[i]? = some e → e.beams = some d →
        Reads body (20 + 6 * i) 2 (some d.boarded) ∧ Reads body (22 + 6 * i) 2 (some d.alighted)
          ∧ Reads body (24 + 6 * i) 2 (some d.discarded)

/-- The reply body of READ FAULTS (R145, R150): the seven flags in the order of their numbers, the mask, the
default mask, the summary and the Fault Record. -/
def FaultsBody (s : State) (f : Face) (body : List Byte) : Prop :=
  let u := (s.face f).fault
  body.length = 55
    ∧ (∀ fl : Flag, Reads body (6 * fl.number - 6) 1 (some (yesNo (u.flags.get fl).isSome))
        ∧ Reads body (6 * fl.number - 5) 1 ((u.flags.get fl).bind (·.bay))
        ∧ Reads body (6 * fl.number - 4) 4 ((u.flags.get fl).map (·.time.toNat)))
    ∧ Reads body 42 1 (some u.mask.toNat) ∧ Reads body 43 1 (some (s.params f).defaultMask.toNat)
    ∧ Reads body 44 1 (some (yesNo u.summary))
    ∧ Reads body 45 1 (u.record.map (·.flag.number)) ∧ Reads body 46 1 (u.record.bind (·.bay))
    ∧ Reads body 47 1 (u.record.map (·.state.number))
    ∧ Reads body 48 1 ((u.record.bind (·.substate)).map (·.number))
    ∧ Reads body 49 1 ((u.record.bind (·.lastAccepted)).map (·.toNat))
    ∧ Reads body 50 4 (u.record.map (·.time.toNat)) ∧ Reads body 54 1 (u.record.map fun r => yesNo r.byMask)

/-- The reply body of READ RELEASE (R123, R137): the Release Record, the readings of the loop and FIRE with
their senses, and the leaf of each bay that the opening plan ordered. -/
def ReleaseBody (s : State) (f : Face) (body : List Byte) : Prop :=
  let r := (s.face f).release
  (∀ c : Cause, ((byteAt body 0).testBit (c.number - 1) = true ↔ r.has c = true))
    ∧ ReadsSet body 1 4 r.pulled ∧ Reads body 5 1 (some r.phase.number)
    ∧ Reads body 6 1 (r.first.map (·.1.number)) ∧ Reads body 7 1 (r.first.bind (·.2))
    ∧ Reads body 8 4 (r.entryTime.map (·.toNat)) ∧ Reads body 12 1 (some (yesNo r.evacIssued))
    ∧ ReadsSet body 13 4 r.opened ∧ Reads body 17 4 (r.resetTime.map (·.toNat))
    ∧ Reads body 21 1 (some (if s.loopClosed f then 0 else 1)) ∧ Reads body 22 1 (some (s.params f).loopSense)
    ∧ Reads body 23 1 (some (if s.fireActive then 0 else 1)) ∧ Reads body 24 1 (some s.store.fireSense)
    ∧ Reads body 25 1 (some r.opened.length)
    ∧ ∀ i n, r.opened[i]? = some n →
        Reads body (26 + i) 1 (((s.bay f n).bind (·.report)).map (·.1.leaf.number))

/-! ### A measurement completed -/

/-- A measurement of a face completes with the results `w` and the verdict numbered `v` (R58, R65): from the state
`s`, with the counter as in `u`, to the state `t`. The record is CURRENT with its results, and the Face Record and
the Bay Table follow it. From MEASURING the face enters BERTHED and says so; a verdict but ON_MARK, 0, sets ALIGN,
which holds the face where it sets the summary; else an order that waits opens the face where it would be accepted
now. The unit turns to the face that waits for it (R39). -/
structure Completes (f : Face) (v : Nat) (w : Measurement) (s u t : State) : Prop where
  status : (t.face f).meas.status = .current
  completion : (t.face f).meas.completion = some u.time
  front : (t.face f).meas.front = w.front
  error : (t.face f).meas.error = w.error
  verdict : (t.face f).meas.verdict = w.verdict
  bayClasses : (t.face f).meas.bayClasses = w.bayClasses
  doorClasses : (t.face f).meas.doorClasses = w.doorClasses
  grantSet : (t.face f).meas.grant = w.grant
  doorList : (t.face f).meas.doorList = w.doorList
  evacuation : (t.face f).meas.evacuation = w.evacuation
  evacDoors : (t.face f).meas.evacDoors = w.evacDoors
  grant : (t.face f).seq.grant = w.grant
  bays :
    (t.face f).bays.map (fun e => (e.num, e.cls, e.granted)) =
      (s.face f).bays.map (fun e =>
        (e.num, ((w.bayClasses.getD []).find? (fun c => c.bay = e.num)).map (·.cls), decide (e.num ∈ w.grant)))
  event : s.stateOf f = .measuring → NextEvent ⟨.berthed, some f, none, u.time, [v, w.grant.length]⟩ s t
  onMark :
    s.stateOf f = .measuring → v = 0 → (t.face f).fault = (s.face f).fault
      ∧ ((s.face f).seq.slot = none → t.stateOf f = .berthed)
  opens :
    ∀ id p, s.stateOf f = .measuring → v = 0 →
      p =
        modSeq f (fun r => { r with state := .berthed, grant := w.grant })
          (modMeas f (fun _ => { w with status := .current }) u) →
      WouldOpen f id p → Opened f id p t
  waits :
    ∀ id p, s.stateOf f = .measuring → v = 0 →
      p = modSeq f (fun r => { r with state := .berthed, grant := w.grant }) u →
      (s.face f).seq.slot = some id → ¬MayOpen f p →
      t.stateOf f = .berthed ∧ (t.face f).seq.slot = some id
  align :
    s.stateOf f = .measuring → v ≠ 0 →
      (t.face f).fault.flags.align =
          (match (s.face f).fault.flags.align with | none => some ⟨none, u.time⟩ | some x => some x)
        ∧ (if FlagSet.has (s.face f).fault.mask .align = false ∧ (s.face f).fault.summary = false then
            t.stateOf f = .held ∧ (t.face f).seq.slot = none
          else t.stateOf f = .berthed ∧ (t.face f).seq.slot = (s.face f).seq.slot)
  turns :
    s.serving = some f → t.waitingFor = none ∧ t.serving = s.waitingFor
      ∧ ∀ g, s.waitingFor = some g →
          (t.face g).meas = { (s.face g).meas with status := .sampling, startTime := some u.time }
  stays : s.serving ≠ some f → t.serving = s.serving ∧ t.waitingFor = s.waitingFor

/-! ### A face brought into service -/

/-- A Bay Table entry as a load builds it from a bay record (R6, R16, R89, R95, R109), but for its order slots: no
class, granted or isolation mark, no report, and a qualifier and a decoder at their first values exactly where the
record has the fitting. -/
def FreshEntry (g : BayGeometry) (e : BayEntry) : Prop :=
  e =
    { num := g.num
      cls := none
      granted := false
      isolated := false
      silent := false
      report := none
      inFlight := e.inFlight
      waiting := e.waiting
      busyHold := false
      miss := 0
      gap := if g.gap then some ⟨false, none, none, none⟩ else none
      beams := if g.beams then some ⟨false, false, .idle, none, none, none, 0, 0, 0⟩ else none
      surveyPolls := 0 }

/-! ### Invariants -/

/-- The capacities of the Event Queue, the repeat batch and the receive buffer, and the limit of the
discard count (R158, R159, R168, R169). -/
def QueuesBounded (s : State) : Prop :=
  s.events.length ≤ Config.queueSize ∧ s.batch.length ≤ Config.fetchSize
    ∧ s.rx.length ≤ Config.bufferSize ∧ s.discards ≤ Config.countLimit

/-- RELEASE is in no mask and in no default mask (R141). -/
def ReleaseUnmasked (s : State) : Prop :=
  ∀ f, FlagSet.has (s.face f).fault.mask .release = false
    ∧ FlagSet.has (s.params f).defaultMask .release = false

/-- At most one face holds a connection hold record (R79). -/
def HoldsExclusive (s : State) : Prop :=
  ¬ ((s.face .a).seq.hold.isSome = true ∧ (s.face .b).seq.hold.isSome = true)

/-- A face out of service has no closing procedure and no substate. -/
def AtRest (f : Face) (s : State) : Prop :=
  s.stateOf f = .outOfService → (s.face f).seq.closingKind = none ∧ (s.face f).seq.substate = none

/-- The value driven on PERMIT is the composition of its five inputs (R153, R154), and while a load is
open both faces are out of service (R3). -/
def PermitComposed (s : State) : Prop :=
  Composed s ∧ (∀ f, AtRest f s)
    ∧ (s.store.load = .loading → ∀ f, s.stateOf f = .outOfService)

/-- The door enable list is empty outside OPENING, OPEN and RELEASED (R30). -/
def EnableListBound (s : State) : Prop :=
  ∀ f, (s.stateOf f).mayEnable = false → (s.face f).berth.doorList = []

/-- Keys rise strictly along a collection. -/
def Ascending {α : Type} (key : α → Nat) (xs : List α) : Prop := xs.Pairwise fun x y => key x < key y

/-- The ranges of a consist's header and of its doors, of which it holds at most its door count (R8, R9). -/
def ConsistInRange (c : Consist) : Prop :=
  1 ≤ c.code ∧ c.code ≤ 254 ∧ 20000 ≤ c.length ∧ c.length ≤ 240000 ∧ c.antenna ≤ 20000
    ∧ 1 ≤ c.doorCount ∧ c.doorCount ≤ 48 ∧ c.doors.length ≤ c.doorCount ∧ ∀ d ∈ c.doors, doorInRange d

/-- The capacities, the ranges and the ascending keys of the five collections, and the range of FIRE sense
(R1, R6 to R12). -/
def CollectionsBounded (s : State) : Prop :=
  Ascending Consist.code s.store.consists ∧ s.store.consists.length ≤ 16
    ∧ (∀ c ∈ s.store.consists, ConsistInRange c) ∧ s.store.fireSense ≤ 1
    ∧ ∀ f,
      Ascending BayGeometry.num (s.cfg f).bays ∧ (s.cfg f).bays.length ≤ 32
        ∧ (∀ g ∈ (s.cfg f).bays,
            g.num ≤ 31 ∧ g.left + 1200 ≤ g.right ∧ g.right ≤ g.left + 4000 ∧ g.right ≤ 250000)
        ∧ Ascending Cell.index (s.cfg f).cells ∧ (s.cfg f).cells.length ≤ 12
        ∧ (∀ c ∈ (s.cfg f).cells, c.index ≤ 11 ∧ c.centre ≤ 250000)
        ∧ Ascending StopMark.code (s.cfg f).stops ∧ (s.cfg f).stops.length ≤ 16
        ∧ (∀ m ∈ (s.cfg f).stops,
            1 ≤ m.code ∧ m.code ≤ 254 ∧ m.mark ≤ 250000 ∧ 50 ≤ m.tolerance ∧ m.tolerance ≤ 500)
        ∧ ∀ row ∈ parameterTable,
            row.2.1 ≤ row.2.2.2 (s.params f) ∧ row.2.2.2 (s.params f) ≤ row.2.2.1

/-- What every step keeps, from any state that has it: the capacities of the queues, RELEASE in no mask,
the exclusion of the connection holds and the bound of the door enable list. -/
structure Standing (s : State) : Prop where
  queues : QueuesBounded s
  unmasked : ReleaseUnmasked s
  holds : HoldsExclusive s
  lists : EnableListBound s

end Sys2Proof.Safety
end

