-- ==== Sys2Proof/Certificates/Slice0/Obligations.lean ====
section
/-!
DEFINITION. The statements for the provers. Each docstring names the rules it formalises, and the log
entry where it rests on a choice of the model.
-/

section

open Sys2Proof Sys2Proof.Machine Sys2Proof.Safety

/-! ### The step -/

/-- A step carries out the command at the front of the queue with the queue's rest. -/
def Obligations.StepRunsTheFrontCommand : Prop :=
  ∀ (c : Instr) (cs : List Instr) (s : State),
    s.pending = c :: cs → step s = exec c { s with pending := cs }

/-- While no command waits, a step is one millisecond: the counter rises by one, wrapping (R165), a connection
hold counts it where both faces stand in OPEN (R80), and nothing else changes. That a step on an empty queue is
a millisecond is the model's choice (notes/assumptions/1.md). -/
def Obligations.IdleMillisecondPasses : Prop :=
  ∀ s : State, s.pending = [] →
    ∃ t, step s = .next t
      ∧ t = { s with time := s.time + 1#32, faces := t.faces }
      ∧ ∀ f, t.face f =
          if s.stateOf f = .opened ∧ s.stateOf (otherFace f) = .opened then
            { s.face f with
              seq :=
                { (s.face f).seq with
                  hold := (s.face f).seq.hold.map fun h => { h with accumulated := h.accumulated + 1 } } }
          else s.face f

/-! ### Reset and power -/

/-- The state after power-on, every item of every block at the value that its rule gives it (R1, R11, R19, R37,
R40, R62, R95, R109, R123, R138, R151, R157 to R160, R165, R168, R169). The raw levels of the input lines, which
the filtered levels then equal, are the model's choice (notes/assumptions/5.md). -/
def Obligations.ResetHasThePowerOnValues : Prop :=
  State.reset.store.load = .idle ∧ State.reset.store.valid = false
    ∧ State.reset.store.consists = [] ∧ State.reset.store.fireSense = 0
    ∧ State.reset.store.broughtIn = ⟨false, false⟩
    ∧ State.reset.time = 0#32 ∧ State.reset.serving = none ∧ State.reset.waitingFor = none
    ∧ State.reset.receiver = .hunting ∧ State.reset.rx = [] ∧ State.reset.discards = 0
    ∧ State.reset.dropped = false ∧ State.reset.overrun = false
    ∧ State.reset.events = [] ∧ State.reset.batch = [] ∧ State.reset.pending = []
    ∧ State.reset.stationOut = []
    ∧ State.reset.fire.level = State.reset.fire.raw ∧ State.reset.fire.since = none
    ∧ ∀ f,
      (State.reset.cfg f).bays = [] ∧ (State.reset.cfg f).cells = [] ∧ (State.reset.cfg f).stops = []
        ∧ State.reset.params f =
            { strengthFloor := 240
              minimumOverlap := 700
              partAllowance := 0
              trainConsent := 1
              autoClose := 1
              dwellBase := 25
              dwellMode := 0
              extensionStep := 5
              maxExtensions := 4
              flowWindow := 2
              warningPeriod := 3
              closeRetries := 3
              reopenPause := 2
              doorwayHold := 4
              openTravel := 6
              lockProof := 1500
              gapQualify := 300
              pairingWindow := 600
              loopSense := 0
              defaultMask := 0#7 }
        ∧ (State.reset.face f).seq =
            { state := .outOfService
              substate := none
              slot := none
              lastAccepted := none
              acceptedIds := []
              grant := []
              dwell := none
              override := false
              dwellDeadline := none
              extensions := 0
              openSince := none
              openTravel := none
              failed := []
              hold := none
              closing := []
              closingKind := none
              warning := false
              endOfWarning := none
              doorway := none }
        ∧ (State.reset.face f).berth =
            { present := false
              lastGood := none
              latest := none
              lossReported := false
              reading := []
              lastReading := none
              weakSince := none
              vacant := false
              doorList := []
              consist := none
              staged := none
              active := none
              answer := none }
        ∧ (State.reset.face f).meas =
            { status := .empty
              consist := none
              source := none
              antenna := none
              mark := none
              tolerance := none
              requestTime := none
              startTime := none
              samples := 0
              weak := 0
              ghost := 0
              range := 0
              run := []
              front := none
              error := none
              verdict := none
              bayClasses := none
              doorClasses := none
              grant := []
              doorList := []
              evacuation := []
              evacDoors := []
              completion := none
              abandon := none }
        ∧ (State.reset.face f).bays = []
        ∧ (State.reset.face f).bus =
            { cursor := none
              polls := 0
              search := .idle
              queryNext := false
              dispatch := []
              gap := []
              turning := false
              outstanding := none
              out := [] }
        ∧ (State.reset.face f).sensing = { lastPassage := none, clearedAt := none }
        ∧ (State.reset.face f).release =
            { loop := false
              train := false
              fire := false
              station := false
              pulled := []
              phase := .none
              first := none
              entryTime := none
              evacIssued := false
              opened := []
              resetTime := none }
        ∧ (∀ fl, (State.reset.face f).fault.flags.get fl = none)
        ∧ (State.reset.face f).fault.mask = 0#7 ∧ (State.reset.face f).fault.record = none
        ∧ (State.reset.face f).fault.summary = false ∧ (State.reset.face f).permit = false
        ∧ State.reset.releaseActive f = false ∧ State.reset.staffAlarm f = false
        ∧ (State.reset.face f).enable.level = (State.reset.face f).enable.raw
        ∧ (State.reset.face f).enable.since = none
        ∧ (State.reset.face f).loop.level = (State.reset.face f).loop.raw
        ∧ (State.reset.face f).loop.since = none

/-- POWER_ON resets every block from any state (R1 and the power-on tables), with each filtered level at the raw
level of its input and no candidate (R151). The inputs' raw levels, what was sent on the links and the queue of
commands are outside the part and stand. What stands is the model's choice (notes/assumptions/10.md). -/
def Obligations.PowerOnResetsEveryBlock : Prop :=
  ∀ s : State, ∃ t, exec .powerOn s = .next t
    ∧ t.time = 0#32 ∧ t.store = State.reset.store ∧ t.serving = none ∧ t.waitingFor = none
    ∧ t.receiver = .hunting ∧ t.rx = [] ∧ t.discards = 0 ∧ t.dropped = false ∧ t.overrun = false
    ∧ t.events = [] ∧ t.batch = [] ∧ t.pending = s.pending ∧ t.stationOut = s.stationOut
    ∧ t.freeCount = s.freeCount ∧ t.fire = ⟨s.fire.raw, s.fire.raw, none⟩
    ∧ ∀ f,
      (t.face f).seq = (State.reset.face f).seq ∧ (t.face f).berth = (State.reset.face f).berth
        ∧ (t.face f).meas = (State.reset.face f).meas ∧ (t.face f).bays = []
        ∧ (t.face f).bus = { (State.reset.face f).bus with out := (s.face f).bus.out }
        ∧ (t.face f).sensing = (State.reset.face f).sensing
        ∧ (t.face f).release = (State.reset.face f).release
        ∧ (t.face f).fault = (State.reset.face f).fault ∧ (t.face f).permit = false
        ∧ (t.face f).enable = ⟨(s.face f).enable.raw, (s.face f).enable.raw, none⟩
        ∧ (t.face f).loop = ⟨(s.face f).loop.raw, (s.face f).loop.raw, none⟩

/-! ### Requests in general -/

/-- Steps 1 to 3 of the examination (R161, R172): a kind that names no request (UNKNOWN_KIND), a length that is not
one of those laid down, by record kind and door entries for a LOAD RECORD, and a face field that names no face are
refused in this order, and the refusal changes nothing but the reply's own flags and buffer. -/
def Obligations.MalformedRequestsChangeNothing : Prop :=
  ∀ (c : Instr) (fr : Machine.Frame) (s : State), requestFrame c = some fr → Front fr s →
    (namesRequest fr.kind = false → ∃ t, exec c s = .next t ∧ OnlyReplied fr .unknownKind [] s t)
      ∧ (namesRequest fr.kind = true → lengthFits fr = false →
          ∃ t, exec c s = .next t ∧ OnlyReplied fr .badLength [] s t)
      ∧ (carriesFace fr.kind = true → lengthFits fr = true → frameFace fr = none →
          ∃ t, exec c s = .next t ∧ OnlyReplied fr .badFace [] s t)

/-- A request that needs configuration is refused while none is in force (R2): with LOADING while a load is
open, with NO_CONFIG while the load state is IDLE and the configuration invalid, after the checks of length,
kind and face and whatever the face states. A refused request changes no state but the reply's own flags and
buffer (R160). The nine requests that need none, and a kind that names no request, are answered without either
refusal. -/
def Obligations.ConfigurationIsNeeded : Prop :=
  ∀ (c : Instr) (fr : Machine.Frame) (s : State), requestFrame c = some fr → Front fr s →
    (needsConfiguration fr.kind = true → lengthFits fr = true → (frameFace fr).isSome = true →
      (s.store.load = .loading → ∃ t, exec c s = .next t ∧ OnlyReplied fr .loading [] s t)
        ∧ (s.store.load = .idle → s.store.valid = false →
            ∃ t, exec c s = .next t ∧ OnlyReplied fr .noConfig [] s t))
      ∧ (needsConfiguration fr.kind = false →
          ∃ (t : State) (status : Status) (waiting flags : Nat) (fields : List Byte), exec c s = .next t ∧ status ≠ .loading ∧ status ≠ .noConfig
            ∧ t.stationOut = s.stationOut ++
                [stationFrame fr.kind fr.tag (be1 status.number ++ be1 waiting ++ be1 flags ++ fields)])

/-- Every request served from the front of the receive buffer gets exactly one reply, which echoes its kind and
tag, reports DROPPED as it stood and clears both flags (R159, R160); the frame leaves the buffer, and a RESTART
discards the frames behind it with DROPPED set for the next reply (R167). -/
def Obligations.EveryRequestIsAnsweredOnce : Prop :=
  ∀ (c : Instr) (fr : Machine.Frame) (s : State), requestFrame c = some fr → Front fr s →
    ∃ t, exec c s = .next t ∧ t.pending = s.pending ∧ t.discards = s.discards
      ∧ (fr.kind ≠ 0x02#8 → t.receiver = s.receiver)
      ∧ (fr.kind ≠ 0x03#8 → t.rx = s.rx.drop 1 ∧ t.dropped = false ∧ t.overrun = false)
      ∧ (fr.kind = 0x03#8 → fr.payload = [] →
          t.rx = [] ∧ t.dropped = decide (1 < s.rx.length))
      ∧ ∃ (status : Status) (waiting : Nat) (o : Bool) (fields : List Byte),
          t.stationOut = s.stationOut ++
            [stationFrame fr.kind fr.tag
              (be1 status.number ++ be1 waiting ++ be1 (yesNo s.dropped + 2 * yesNo o) ++ fields)]
            ∧ (s.overrun = true → o = true)

/-- A request that is not the oldest frame held is a good frame just completed: it joins a buffer of fewer than
two frames and is otherwise discarded with DROPPED set (R159). That the command stands for the frame's
completion in that case is the model's choice (notes/assumptions/6.md). -/
def Obligations.FrameBehindAnOlderFrameWaits : Prop :=
  ∀ (c : Instr) (fr older : Machine.Frame) (s : State), requestFrame c = some fr →
    Front older s → older ≠ fr →
    exec c s = .next
      (if s.rx.length < 2 then { s with rx := s.rx ++ [fr] } else { s with dropped := true })

/-! ### The receiver -/

/-- Bytes of the Station Link (R158): hunting, a byte other than the sync byte is discarded and a sync byte
begins a frame; in a frame, within 20 ms of the byte before, a byte is gathered, and a length byte above 240
discards the frame with the discard count raised and held at 65,535. More than 20 ms between two bytes of a
frame: the frame is discarded and counted, whether the gap is found at the next byte, which is then taken
afresh, or passes by itself, with the counter at the gap's end or past it (notes/assumptions/2.md). A gap while
hunting does nothing. -/
def Obligations.ReceiverGathersBytes : Prop :=
  ∀ (b : Byte) (s : State),
    (s.receiver = .hunting → b ≠ 0xA5#8 → exec (.stationLinkByte b) s = .next s)
      ∧ (s.receiver = .hunting →
          exec (.stationLinkByte 0xA5#8) s = .next { s with receiver := .inFrame [] s.time })
      ∧ (∀ last, s.receiver = .inFrame [] last → (s.time - last).toNat ≤ 20 → 240 < b.toNat →
          exec (.stationLinkByte b) s
            = .next { s with receiver := .hunting, discards := min 65535 (s.discards + 1) })
      ∧ (∀ last, s.receiver = .inFrame [] last → (s.time - last).toNat ≤ 20 → b.toNat ≤ 240 →
          exec (.stationLinkByte b) s = .next { s with receiver := .inFrame [b] s.time })
      ∧ (∀ n bs last, s.receiver = .inFrame (n :: bs) last → (s.time - last).toNat ≤ 20 →
          n.toNat ≤ 240 → bs.length + 2 < n.toNat + 5 →
          exec (.stationLinkByte b) s = .next { s with receiver := .inFrame (n :: bs ++ [b]) s.time })
      ∧ (s.receiver = .hunting → exec .interByteGap s = .next s)
      ∧ ∀ bs last, s.receiver = .inFrame bs last →
        (20 < (s.time - last).toNat →
            exec (.stationLinkByte b) s
              = .next
                  { s with
                    receiver := if b = 0xA5#8 then .inFrame [] s.time else .hunting
                    discards := min 65535 (s.discards + 1) })
          ∧ exec .interByteGap s
              = .next
                  { advanceTo (last + 21#32) s with
                    receiver := .hunting
                    discards := min 65535 (s.discards + 1) }

/-- The byte that completes a frame, under either command (R158, R159): a frame whose check agrees enters the
receive buffer, or is discarded with DROPPED set while the buffer holds two; a frame whose check does not agree
is discarded and counted. -/
def Obligations.CompletedFrameIsJudged : Prop :=
  ∀ (n kind tag x y : Byte) (payload : List Byte) (last : Time) (s : State),
    s.receiver = .inFrame (n :: kind :: tag :: payload ++ [x]) last →
    (s.time - last).toNat ≤ 20 → n.toNat ≤ 240 → payload.length = n.toNat →
    ∃ t, exec (.frameComplete y) s = .next t ∧ exec (.stationLinkByte y) s = .next t
      ∧ ([x, y] = be2 (crc16 (n :: kind :: tag :: payload)).toNat →
          (s.rx.length < 2 → t = { s with receiver := .hunting, rx := s.rx ++ [⟨kind, tag, payload⟩] })
            ∧ (2 ≤ s.rx.length → t = { s with receiver := .hunting, dropped := true }))
      ∧ ([x, y] ≠ be2 (crc16 (n :: kind :: tag :: payload)).toNat →
          t = { s with receiver := .hunting, discards := min 65535 (s.discards + 1) })

/-- A frame built as section 11.2 lays it down is read back whole: its bytes, sent to a hunting receiver one
after another, put exactly that frame into a buffer with room (R158, R159, R170, R171). -/
def Obligations.BuiltFramesAreReadBack : Prop :=
  ∀ (kind tag : Byte) (payload : List Byte) (s : State), payload.length ≤ 240 →
    s.receiver = .hunting → s.rx.length < 2 →
    runAll ((stationFrame kind tag payload).map Instr.stationLinkByte) s
      = some { s with rx := s.rx ++ [⟨kind, tag, payload⟩] }

/-! ### IDENTIFY, the reads, TIME SET, RESTART and FETCH EVENTS -/

/-- IDENTIFY returns the maker, the part name, the design level, the load state, the validity, the faces brought
into service, the time counter and the discard count, and changes no state (R166). The design level has no
stated value and is a free one (notes/assumptions/3.md). The bytes of the load state (IDLE 0, LOADING 1) and of
the validity (VALID 0, INVALID 1) and the order of the fields are the model's choice, its reading of section 11.2
(notes/assumptions/22.md), as is that the faces' bytes have no count before them (notes/assumptions/44.md). -/
def Obligations.IdentifyReportsThePart : Prop :=
  ∀ (tag : Byte) (s : State), Front ⟨0x01#8, tag, []⟩ s →
    ∃ t, exec (.identify tag []) s = .next t
      ∧ OnlyReplied ⟨0x01#8, tag, []⟩ .done
          ([8#8, 79#8, 115#8, 116#8, 114#8, 97#8, 102#8, 101#8, 110#8] ++ [5#8, 77#8, 72#8, 54#8, 52#8, 48#8]
            ++ [Config.designLevel]
            ++ [if s.store.load = .idle then 0#8 else 1#8] ++ [if s.store.valid then 0#8 else 1#8]
            ++ [if s.store.broughtIn.a then 1#8 else 0#8] ++ [if s.store.broughtIn.b then 1#8 else 0#8]
            ++ be4 s.time.toNat ++ be2 s.discards) s t

/-- The requests that report and change nothing: STATUS FACE in every load state, and STATUS BAYS and the four READ
requests with configuration in force, in every face state (R42, R121, R137, R150, R163). The six bodies read back
field by field: each state, number, time, set and list that the rules name for the request stands at its place in
its width, absent values as all-ones (sections 10.5 and 11.2). How the fields are laid out where section 11.2 leaves
it open is the model's reading (notes/assumptions/22.md); which items have a count before them, the byte of a flag
set or clear and that of a filtered line level are its choice (notes/assumptions/44.md), as are the senses that the
loop and FIRE are read under while a load is open (notes/assumptions/45.md), the base and the mask sent in the middle
of a step and while only a hit is left (notes/assumptions/34.md), and that the bits laid down as 0 in a report are
sent so, whatever the unit sent (notes/assumptions/39.md). -/
def Obligations.ReadsChangeNothing : Prop :=
  ∀ (tag fb n : Byte) (f : Face) (s : State), faceOfByte fb = some f →
    (Front ⟨0x08#8, tag, [fb]⟩ s → ∃ t, exec (.statusFace tag [fb]) s = .next t
        ∧ OnlyReplied ⟨0x08#8, tag, [fb]⟩ .done (s.statusFace f) s t)
      ∧ (Configured s →
          (Front ⟨0x09#8, tag, [fb, n]⟩ s → ∃ t, exec (.statusBays tag [fb, n]) s = .next t
              ∧ OnlyReplied ⟨0x09#8, tag, [fb, n]⟩ .done (s.statusBays f n.toNat) s t)
            ∧ (Front ⟨0x0A#8, tag, [fb]⟩ s → ∃ t, exec (.readAlignment tag [fb]) s = .next t
                ∧ OnlyReplied ⟨0x0A#8, tag, [fb]⟩ .done (alignmentBytes (s.face f).meas) s t)
            ∧ (Front ⟨0x0B#8, tag, [fb]⟩ s → ∃ t, exec (.readCounts tag [fb]) s = .next t
                ∧ OnlyReplied ⟨0x0B#8, tag, [fb]⟩ .done (s.face f).countsBytes s t)
            ∧ (Front ⟨0x0C#8, tag, [fb]⟩ s → ∃ t, exec (.readFaults tag [fb]) s = .next t
                ∧ OnlyReplied ⟨0x0C#8, tag, [fb]⟩ .done (s.faultsBytes f) s t)
            ∧ (Front ⟨0x0D#8, tag, [fb]⟩ s → ∃ t, exec (.readRelease tag [fb]) s = .next t
                ∧ OnlyReplied ⟨0x0D#8, tag, [fb]⟩ .done (s.releaseBytes f) s t))
      ∧ FaceBody s f (s.statusFace f) ∧ BaysBody s f n.toNat (s.statusBays f n.toNat)
      ∧ AlignmentBody (s.face f).meas (alignmentBytes (s.face f).meas)
      ∧ CountsBody (s.face f) (s.face f).countsBytes ∧ FaultsBody s f (s.faultsBytes f)
      ∧ ReleaseBody s f (s.releaseBytes f)

/-- TIME SET (R165): the counter takes the value sent, the reply carries the counter before and after, every
time held for timing moves by the shift, and every time held for reporting stays as written. -/
def Obligations.TimeSetKeepsDurations : Prop :=
  ∀ (tag : Byte) (v : Time) (s : State), Front ⟨0x02#8, tag, be4 v.toNat⟩ s →
    ∃ t, exec (.timeSet tag (be4 v.toNat)) s = .next t
      ∧ Replied ⟨0x02#8, tag, be4 v.toNat⟩ .done (be4 s.time.toNat ++ be4 v.toNat) s t
      ∧ t.time = v ∧ t.store = s.store ∧ t.events = s.events ∧ t.batch = s.batch
      ∧ t.serving = s.serving ∧ t.waitingFor = s.waitingFor ∧ t.discards = s.discards
      ∧ t.freeCount = s.freeCount ∧ t.pending = s.pending
      ∧ t.fire = { s.fire with since := s.fire.since.map (· + (v - s.time)) }
      ∧ ∀ f,
        (t.face f).meas = (s.face f).meas ∧ (t.face f).release = (s.face f).release
          ∧ (t.face f).fault = (s.face f).fault ∧ (t.face f).permit = (s.face f).permit
          ∧ (t.face f).enable = { (s.face f).enable with since := (s.face f).enable.since.map (· + (v - s.time)) }
          ∧ (t.face f).loop = { (s.face f).loop with since := (s.face f).loop.since.map (· + (v - s.time)) }
          ∧ (t.face f).sensing =
              { (s.face f).sensing with
                lastPassage := (s.face f).sensing.lastPassage.map (· + (v - s.time)) }
          ∧ (t.face f).berth =
              { (s.face f).berth with
                lastGood := (s.face f).berth.lastGood.map (· + (v - s.time))
                lastReading := (s.face f).berth.lastReading.map (· + (v - s.time))
                weakSince := (s.face f).berth.weakSince.map (· + (v - s.time)) }
          ∧ (t.face f).seq =
              { (s.face f).seq with
                dwellDeadline := (s.face f).seq.dwellDeadline.map (· + (v - s.time))
                openTravel := (s.face f).seq.openTravel.map (· + (v - s.time))
                endOfWarning := (s.face f).seq.endOfWarning.map (· + (v - s.time))
                doorway := (s.face f).seq.doorway.map (· + (v - s.time))
                hold := (s.face f).seq.hold.map fun h =>
                  { h with
                    countingStart := h.countingStart.map (· + (v - s.time))
                    capDeadline := h.capDeadline.map (· + (v - s.time)) }
                closing := (s.face f).seq.closing.map fun e =>
                  { e with
                    deadline := e.deadline.map (· + (v - s.time))
                    travel := e.travel.map (· + (v - s.time)) } }
          ∧ (t.face f).bays = (s.face f).bays.map fun e =>
              { e with
                gap := e.gap.map fun q => { q with start := q.start.map (· + (v - s.time)) }
                beams := e.beams.map fun d =>
                  { d with
                    firstBreak := d.firstBreak.map (· + (v - s.time))
                    lastEdge := d.lastEdge.map (· + (v - s.time)) } }

/-- RESTART (R18, R167 and the RESTART columns of R19, R37, R41, R62, R95, R109, R123, R138, R157): the reply first,
then the reset. With the load IDLE the configuration stays in force; an open load ends without it. The Event Queue
(R168), its overrun mark, the repeat batch and the frames behind are emptied, and the Alignment Unit serves no face.
A face out of service stays so, with nothing held. A face in service enters SURVEY with its mask and dwell values
from the configuration, its ids accepted since arrival and its isolation marks kept, and every other record at its
power-on value, its bay entries and its master's polling begun afresh, WARN off on the dispatch list; or RELEASED
where its loop reads open or FIRE is active (R128). The records of a release found then, and those alone, stand in
the queue (notes/assumptions/40.md): RELEASE_ENTERED with the first cause and SURVEY (R129) and FAULT_SET of RELEASE
(R139), face A's before face B's (notes/assumptions/12.md). What IDENTIFY reports of the last LOAD END stays when an open load ends
(notes/assumptions/27.md), the answer and the frames on their way stay (notes/assumptions/26.md), and the entries
placed by the reset itself go out before the first poll (notes/assumptions/17.md): these are the model's choices. -/
def Obligations.RestartKeepsTheConfiguration : Prop :=
  ∀ (tag : Byte) (s : State), Front ⟨0x03#8, tag, []⟩ s →
    ∃ t, exec (.restart tag []) s = .next t
      ∧ t.stationOut = s.stationOut ++
          [stationFrame 0x03#8 tag (be1 0 ++ be1 s.events.length ++ be1 (yesNo s.dropped + 2 * yesNo s.overrun))]
      ∧ t.rx = [] ∧ t.dropped = decide (1 < s.rx.length) ∧ t.overrun = false ∧ t.batch = []
      ∧ t.serving = none ∧ t.waitingFor = none
      ∧ t.time = s.time ∧ t.discards = s.discards ∧ t.receiver = s.receiver ∧ t.fire = s.fire
      ∧ t.freeCount = s.freeCount ∧ t.pending = s.pending
      ∧ (s.store.load = .idle → t.store = s.store)
      ∧ (s.store.load = .loading → t.store = { broughtIn := s.store.broughtIn })
      ∧ ((∀ f, s.stateOf f = .outOfService) → t.events = [])
      ∧ (s.store.load = .idle → ∀ found : Face → List EventRecord,
          (∀ f, ((s.stateOf f = .outOfService ∨ s.loopClosed f = true ∧ s.fireActive = false) → found f = [])
            ∧ (s.stateOf f ≠ .outOfService → ¬(s.loopClosed f = true ∧ s.fireActive = false) →
                found f =
                  [⟨.releaseEntered, some f, none, s.time, [if s.fireActive then 4 else 1, 2]⟩,
                    ⟨.faultSet, some f, none, s.time,
                      [7, if FlagSet.has (s.params f).defaultMask .release then 1 else 0]⟩])) →
          t.events = found .a ++ found .b)
      ∧ ∀ f,
        (t.face f).enable = (s.face f).enable ∧ (t.face f).loop = (s.face f).loop ∧ (t.face f).permit = false
          ∧ (t.face f).meas = {} ∧ (t.face f).sensing = {}
          ∧ (t.face f).berth = { answer := (s.face f).berth.answer }
          ∧ (t.face f).bays = (s.face f).bays.map (fun e =>
              { num := e.num
                cls := none
                granted := false
                isolated := e.isolated
                silent := false
                report := none
                inFlight := none
                waiting := none
                busyHold := false
                miss := 0
                gap := e.gap.map fun _ => ⟨false, none, none, none⟩
                beams := e.beams.map fun _ => ⟨false, false, .idle, none, none, none, 0, 0, 0⟩
                surveyPolls := 0 })
          ∧ (s.stateOf f = .outOfService →
              (t.face f).seq = { acceptedIds := (s.face f).seq.acceptedIds }
                ∧ (t.face f).fault = {} ∧ (t.face f).release = {}
                ∧ (t.face f).bus =
                    { cursor := ((s.face f).bays.map (·.num)).head?, out := (s.face f).bus.out })
          ∧ (s.stateOf f ≠ .outOfService → s.store.load = .idle →
              (t.face f).fault.mask = (s.params f).defaultMask
                ∧ (t.face f).bus =
                    { cursor := ((s.face f).bays.map (·.num)).head?
                      gap := [.groupWarn false]
                      out := (s.face f).bus.out }
                ∧ ((s.loopClosed f = true ∧ s.fireActive = false) →
                    (t.face f).seq =
                        { state := .survey
                          acceptedIds := (s.face f).seq.acceptedIds
                          dwell :=
                            some ⟨(s.params f).dwellBase, (s.params f).dwellMode, (s.params f).extensionStep⟩ }
                      ∧ (t.face f).fault = { mask := (s.params f).defaultMask }
                      ∧ (t.face f).release = {})
                ∧ (¬(s.loopClosed f = true ∧ s.fireActive = false) →
                    (t.face f).seq =
                        { state := .released
                          acceptedIds := (s.face f).seq.acceptedIds
                          dwell :=
                            some ⟨(s.params f).dwellBase, (s.params f).dwellMode, (s.params f).extensionStep⟩ }
                      ∧ (∀ fl, (t.face f).fault.flags.get fl =
                          if fl = .release then some ⟨none, s.time⟩ else none)
                      ∧ (t.face f).release =
                          { loop := !s.loopClosed f
                            fire := s.fireActive
                            phase := .holding
                            first := some (if s.fireActive then .fire else .loop, none)
                            entryTime := some s.time }))

/-- FETCH EVENTS (R169), in every state: with the flag clear the reply carries the oldest records, up to 8,
which leave the queue and become the repeat batch; with the flag set it carries the repeat batch again and
removes nothing. The events waiting that it reports are those left in the queue. RESTART and power-on empty the
repeat batch. A record takes 14 bytes (R172). That any byte but 0 is a set flag is the model's choice
(notes/assumptions/20.md). -/
def Obligations.FetchTakesTheOldestEight : Prop :=
  ∀ (tag flag : Byte) (s : State),
    (Front ⟨0x1D#8, tag, [0#8]⟩ s →
        ∃ t, exec (.fetchEvents tag [0#8]) s = .next t
          ∧ OnlyReplied ⟨0x1D#8, tag, [0#8]⟩ .done
              (be1 (s.events.take 8).length ++ (s.events.take 8).flatMap eventBytes)
              { s with events := s.events.drop 8, batch := s.events.take 8 } t)
      ∧ (flag ≠ 0#8 → s.batch.length ≤ 8 → Front ⟨0x1D#8, tag, [flag]⟩ s →
          ∃ t, exec (.fetchEventsRepeat tag [flag]) s = .next t
            ∧ OnlyReplied ⟨0x1D#8, tag, [flag]⟩ .done
                (be1 s.batch.length ++ s.batch.flatMap eventBytes) s t)
      ∧ (Front ⟨0x03#8, tag, []⟩ s → ∃ t, exec (.restart tag []) s = .next t ∧ t.batch = [])
      ∧ (∃ t, exec .powerOn s = .next t ∧ t.batch = [])
      ∧ ∀ x : EventRecord, x.details.length ≤ 3 → (eventBytes x).length = 14

/-! ### The load -/

/-- LOAD BEGIN (R3, R4): accepted where each face is EMPTY, OUT_OF_SERVICE or HELD, it opens a load with every
collection empty and the configuration invalid, and takes both faces out of service with their working state
cleared, each order that waits lapsing with its ORDER_LAPSED (R72); the Berth Monitor keeps the link and the latest beacon (R19). In any other state of either face it is
refused with STATE. LOAD ABANDON (R17): an open load ends with nothing of it kept and the configuration still
invalid; with no load open it is refused with STATE. That what IDENTIFY reports of the faces last brought into
service stands through both is the model's choice (notes/assumptions/27.md), and so are that the platform answer and
the frames already sent on the bus stand through LOAD BEGIN (notes/assumptions/26.md) and that face A's ORDER_LAPSED
comes first (notes/assumptions/12.md). -/
def Obligations.LoadBeginAndAbandon : Prop :=
  ∀ (tag : Byte) (s : State),
    (Front ⟨0x04#8, tag, []⟩ s →
      (∀ f, s.stateOf f = .empty ∨ s.stateOf f = .outOfService ∨ s.stateOf f = .held) →
        ∃ t, exec (.loadBegin tag []) s = .next t
          ∧ Replied ⟨0x04#8, tag, []⟩ .done [] s t
          ∧ t.store = { load := .loading, broughtIn := s.store.broughtIn }
          ∧ t.time = s.time ∧ t.fire = s.fire ∧ t.receiver = s.receiver ∧ t.discards = s.discards
          ∧ t.batch = s.batch ∧ t.pending = s.pending ∧ s.events <+: t.events
          ∧ (∀ id, (s.face .a).seq.slot = some id →
              NextEvent ⟨.orderLapsed, some .a, none, s.time, [id.toNat]⟩ s t)
          ∧ (∀ id, (s.face .a).seq.slot = none → (s.face .b).seq.slot = some id →
              NextEvent ⟨.orderLapsed, some .b, none, s.time, [id.toNat]⟩ s t)
          ∧ (∀ ia ib, (s.face .a).seq.slot = some ia → (s.face .b).seq.slot = some ib →
              s.events.length + 2 ≤ Config.queueSize →
              (s.events ++
                [⟨.orderLapsed, some .a, none, s.time, [ia.toNat]⟩,
                  ⟨.orderLapsed, some .b, none, s.time, [ib.toNat]⟩]) <+: t.events)
          ∧ ∀ f,
            (t.face f).seq = {} ∧ (t.face f).meas = {} ∧ (t.face f).bays = [] ∧ (t.face f).sensing = {}
              ∧ (t.face f).release = {} ∧ (t.face f).fault = {} ∧ (t.face f).permit = false
              ∧ (t.face f).bus = { out := (s.face f).bus.out }
              ∧ (t.face f).enable = (s.face f).enable ∧ (t.face f).loop = (s.face f).loop
              ∧ (t.face f).berth =
                  { present := (s.face f).berth.present
                    lastGood := (s.face f).berth.lastGood
                    latest := (s.face f).berth.latest
                    answer := (s.face f).berth.answer })
      ∧ (Front ⟨0x04#8, tag, []⟩ s →
          ¬(∀ f, s.stateOf f = .empty ∨ s.stateOf f = .outOfService ∨ s.stateOf f = .held) →
          ∃ t, exec (.loadBegin tag []) s = .next t ∧ OnlyReplied ⟨0x04#8, tag, []⟩ .state [] s t)
      ∧ (Front ⟨0x07#8, tag, []⟩ s → s.store.load = .loading → PermitComposed s →
          ∃ t, exec (.loadAbandon tag []) s = .next t
            ∧ OnlyReplied ⟨0x07#8, tag, []⟩ .done [] { s with store := { broughtIn := s.store.broughtIn } } t)
      ∧ (Front ⟨0x07#8, tag, []⟩ s → s.store.load = .idle →
          ∃ t, exec (.loadAbandon tag []) s = .next t ∧ OnlyReplied ⟨0x07#8, tag, []⟩ .state [] s t)

/-- Every LOAD RECORD of a lawful length (R5, R161, R172): while no load is open it is refused with STATE; while
one is open, a record kind outside 1 to 5 (LOAD_RECORD_UNKNOWN_KIND) is reported as a load error of its kind
byte, and a BAY, CELL, STOP or PARAM record whose face byte names nothing is refused with BAD_FACE, for a PARAM
record by the model's choice (notes/assumptions/21.md). -/
def Obligations.RecordsNeedAnOpenLoad : Prop :=
  ∀ (c : Instr) (tag : Byte) (p : List Byte) (s : State),
    requestFrame c = some ⟨0x05#8, tag, p⟩ → Front ⟨0x05#8, tag, p⟩ s → recordLengthFits p = true →
    (s.store.load = .idle → ∃ t, exec c s = .next t ∧ OnlyReplied ⟨0x05#8, tag, p⟩ .state [] s t)
      ∧ (s.store.load = .loading → ∀ k rest, p = k :: rest → (k = 0#8 ∨ 5 < k.toNat) →
          ∃ t, exec c s = .next t ∧ OnlyReplied ⟨0x05#8, tag, p⟩ .loadError [1#8, k, 0#8, 0#8] s t)
      ∧ (s.store.load = .loading → ∀ k fb rest, p = k :: fb :: rest → faceOfByte fb = none →
          (k = 1#8 ∨ k = 2#8 ∨ k = 4#8 ∨ (k = 5#8 ∧ fb ≠ 0xFF#8)) →
          ∃ t, exec c s = .next t ∧ OnlyReplied ⟨0x05#8, tag, p⟩ .badFace [] s t)

/-- A BAY, a CELL and a STOP record (R5, R6, R7, R10): the first field out of range is reported, and a record in
range is stored under its face and number in place of one with the same key; a seventeenth stop code at a face is
refused with TABLE_FULL, and a stop tolerance of 0 is taken as 300. The field that TABLE_FULL names is the model's
choice, and so is that bits 3 to 7 of the fittings byte are ignored (notes/assumptions/21.md). -/
def Obligations.BayCellAndStopRecordsAreStored : Prop :=
  ∀ (tag fb n fit : Byte) (x y : BitVec 32) (tol : BitVec 16) (f : Face) (s : State),
    faceOfByte fb = some f → s.store.load = .loading →
    (Front ⟨0x05#8, tag, 1#8 :: fb :: n :: (be4 x.toNat ++ be4 y.toNat ++ [fit])⟩ s →
        ∃ t, exec (.loadRecordBay tag (fb :: n :: (be4 x.toNat ++ be4 y.toNat ++ [fit]))) s = .next t
          ∧ if 31 < n.toNat then
              OnlyReplied ⟨0x05#8, tag, 1#8 :: fb :: n :: (be4 x.toNat ++ be4 y.toNat ++ [fit])⟩
                .loadError [1#8, 1#8, 2#8, 0#8] s t
            else if 250000 < x.toNat then
              OnlyReplied ⟨0x05#8, tag, 1#8 :: fb :: n :: (be4 x.toNat ++ be4 y.toNat ++ [fit])⟩
                .loadError [1#8, 1#8, 3#8, 0#8] s t
            else if 250000 < y.toNat ∨ y.toNat < x.toNat + 1200 ∨ x.toNat + 4000 < y.toNat then
              OnlyReplied ⟨0x05#8, tag, 1#8 :: fb :: n :: (be4 x.toNat ++ be4 y.toNat ++ [fit])⟩
                .loadError [1#8, 1#8, 4#8, 0#8] s t
            else
              OnlyReplied ⟨0x05#8, tag, 1#8 :: fb :: n :: (be4 x.toNat ++ be4 y.toNat ++ [fit])⟩ .done []
                { s with
                  store := s.store.modCfg f fun c =>
                    { c with
                      bays := putKeyed BayGeometry.num
                        ⟨n.toNat, x.toNat, y.toNat, fit.getLsbD 0, fit.getLsbD 1, fit.getLsbD 2⟩ c.bays } } t)
      ∧ (Front ⟨0x05#8, tag, 2#8 :: fb :: n :: be4 x.toNat⟩ s →
          ∃ t, exec (.loadRecordCell tag (fb :: n :: be4 x.toNat)) s = .next t
            ∧ if 11 < n.toNat then
                OnlyReplied ⟨0x05#8, tag, 2#8 :: fb :: n :: be4 x.toNat⟩ .loadError [1#8, 2#8, 2#8, 0#8] s t
              else if 250000 < x.toNat then
                OnlyReplied ⟨0x05#8, tag, 2#8 :: fb :: n :: be4 x.toNat⟩ .loadError [1#8, 2#8, 3#8, 0#8] s t
              else
                OnlyReplied ⟨0x05#8, tag, 2#8 :: fb :: n :: be4 x.toNat⟩ .done []
                  { s with
                    store := s.store.modCfg f fun c =>
                      { c with cells := putKeyed Cell.index ⟨n.toNat, x.toNat⟩ c.cells } } t)
      ∧ (Front ⟨0x05#8, tag, 4#8 :: fb :: n :: (be4 x.toNat ++ be2 tol.toNat)⟩ s →
          ∃ t, exec (.loadRecordStop tag (fb :: n :: (be4 x.toNat ++ be2 tol.toNat))) s = .next t
            ∧ if n = 0#8 ∨ n = 255#8 then
                OnlyReplied ⟨0x05#8, tag, 4#8 :: fb :: n :: (be4 x.toNat ++ be2 tol.toNat)⟩ .loadError
                  [1#8, 4#8, 2#8, 0#8] s t
              else if 250000 < x.toNat then
                OnlyReplied ⟨0x05#8, tag, 4#8 :: fb :: n :: (be4 x.toNat ++ be2 tol.toNat)⟩ .loadError
                  [1#8, 4#8, 3#8, 0#8] s t
              else if tol ≠ 0#16 ∧ (tol.toNat < 50 ∨ 500 < tol.toNat) then
                OnlyReplied ⟨0x05#8, tag, 4#8 :: fb :: n :: (be4 x.toNat ++ be2 tol.toNat)⟩ .loadError
                  [1#8, 4#8, 4#8, 0#8] s t
              else if (∀ z ∈ (s.cfg f).stops, z.code ≠ n.toNat) ∧ 16 ≤ (s.cfg f).stops.length then
                OnlyReplied ⟨0x05#8, tag, 4#8 :: fb :: n :: (be4 x.toNat ++ be2 tol.toNat)⟩ .loadError
                  [2#8, 4#8, 2#8, 0#8] s t
              else
                OnlyReplied ⟨0x05#8, tag, 4#8 :: fb :: n :: (be4 x.toNat ++ be2 tol.toNat)⟩ .done []
                  { s with
                    store := s.store.modCfg f fun c =>
                      { c with
                        stops := putKeyed StopMark.code
                          ⟨n.toNat, x.toNat, if tol = 0#16 then 300 else tol.toNat⟩ c.stops } } t)

/-- A CONSIST first part (R5, R8): its header fields and then its door entries are examined in order, the door
entries from door 1 up, a seventeenth code is refused with TABLE_FULL, and an accepted part begins or replaces
the whole consist. The field that TABLE_FULL names and the order of the checks of the entries are the model's
choice (notes/assumptions/21.md). -/
def Obligations.FirstPartBeginsAConsist : Prop :=
  ∀ (tag code count : Byte) (len : BitVec 32) (antenna : BitVec 16) (ds : List Door) (s : State),
    s.store.load = .loading → 1 ≤ ds.length → ds.length ≤ 24 → (∀ d ∈ ds, doorFits d) →
    ∀ rest, rest = be4 len.toNat ++ be2 antenna.toNat ++ [count] ++ ds.flatMap doorEntry →
    Front ⟨0x05#8, tag, 3#8 :: code :: 1#8 :: rest⟩ s →
    ∃ t, exec (.consistFirstPart tag code rest) s = .next t
      ∧ if code = 0#8 ∨ code = 255#8 then
          OnlyReplied ⟨0x05#8, tag, 3#8 :: code :: 1#8 :: rest⟩ .loadError [1#8, 3#8, 1#8, 0#8] s t
        else if len.toNat < 20000 ∨ 240000 < len.toNat then
          OnlyReplied ⟨0x05#8, tag, 3#8 :: code :: 1#8 :: rest⟩ .loadError [1#8, 3#8, 3#8, 0#8] s t
        else if 20000 < antenna.toNat then
          OnlyReplied ⟨0x05#8, tag, 3#8 :: code :: 1#8 :: rest⟩ .loadError [1#8, 3#8, 4#8, 0#8] s t
        else if count = 0#8 ∨ 48 < count.toNat then
          OnlyReplied ⟨0x05#8, tag, 3#8 :: code :: 1#8 :: rest⟩ .loadError [1#8, 3#8, 5#8, 0#8] s t
        else
          (∀ pre d post, ds = pre ++ d :: post → (∀ x ∈ pre, doorInRange x) → ¬doorInRange d →
              OnlyReplied ⟨0x05#8, tag, 3#8 :: code :: 1#8 :: rest⟩ .loadError
                [1#8, 3#8, 6#8, BitVec.ofNat 8 (pre.length + 1)] s t)
            ∧ ((∀ x ∈ ds, doorInRange x) → count.toNat < ds.length →
                OnlyReplied ⟨0x05#8, tag, 3#8 :: code :: 1#8 :: rest⟩ .loadError
                  [1#8, 3#8, 6#8, count + 1#8] s t)
            ∧ ((∀ x ∈ ds, doorInRange x) → ds.length ≤ count.toNat →
                if (∀ c ∈ s.store.consists, c.code ≠ code.toNat) ∧ 16 ≤ s.store.consists.length then
                  OnlyReplied ⟨0x05#8, tag, 3#8 :: code :: 1#8 :: rest⟩ .loadError [2#8, 3#8, 1#8, 0#8] s t
                else
                  OnlyReplied ⟨0x05#8, tag, 3#8 :: code :: 1#8 :: rest⟩ .done []
                    { s with
                      store :=
                        { s.store with
                          consists := putKeyed Consist.code
                            ⟨code.toNat, len.toNat, antenna.toNat, count.toNat, ds⟩ s.store.consists } } t)

/-- A CONSIST continuation (R5, R9): a first door outside 2 to 48 is out of range; a code not begun in this
load, or a first door that is not the next door, is out of sequence; a door out of range and a door beyond the
count are reported by number; otherwise the entries join the consist's doors. The order of the first two checks
and of those of the entries is the model's choice (notes/assumptions/21.md). -/
def Obligations.ContinuationAppendsDoors : Prop :=
  ∀ (tag code first : Byte) (ds : List Door) (s : State),
    s.store.load = .loading → 1 ≤ ds.length → ds.length ≤ 24 → (∀ d ∈ ds, doorFits d) → first ≠ 1#8 →
    ∀ fields, fields = code :: first :: ds.flatMap doorEntry →
    Front ⟨0x05#8, tag, 3#8 :: fields⟩ s →
    ∃ t, exec (.consistContinuation tag fields) s = .next t
      ∧ if first = 0#8 ∨ 48 < first.toNat then
          OnlyReplied ⟨0x05#8, tag, 3#8 :: fields⟩ .loadError [1#8, 3#8, 2#8, 0#8] s t
        else
          ((∀ c ∈ s.store.consists, c.code ≠ code.toNat) →
              OnlyReplied ⟨0x05#8, tag, 3#8 :: fields⟩ .loadError [3#8, 3#8, 2#8, 0#8] s t)
            ∧ ∀ c, s.store.consists.find? (fun c => c.code = code.toNat) = some c →
                (first.toNat ≠ c.doors.length + 1 →
                    OnlyReplied ⟨0x05#8, tag, 3#8 :: fields⟩ .loadError [3#8, 3#8, 2#8, 0#8] s t)
                  ∧ (first.toNat = c.doors.length + 1 →
                      (∀ pre d post, ds = pre ++ d :: post → (∀ x ∈ pre, doorInRange x) → ¬doorInRange d →
                          OnlyReplied ⟨0x05#8, tag, 3#8 :: fields⟩ .loadError
                            [1#8, 3#8, 6#8, BitVec.ofNat 8 (first.toNat + pre.length)] s t)
                        ∧ ((∀ x ∈ ds, doorInRange x) → c.doorCount < c.doors.length + ds.length →
                            OnlyReplied ⟨0x05#8, tag, 3#8 :: fields⟩ .loadError
                              [1#8, 3#8, 6#8, BitVec.ofNat 8 (c.doorCount + 1)] s t)
                        ∧ ((∀ x ∈ ds, doorInRange x) → c.doors.length + ds.length ≤ c.doorCount →
                            OnlyReplied ⟨0x05#8, tag, 3#8 :: fields⟩ .done []
                              { s with
                                store :=
                                  { s.store with
                                    consists := putKeyed Consist.code { c with doors := c.doors ++ ds }
                                      s.store.consists } } t))

/-- A PARAM record (R11, R12, R141, R162): a number outside its range is raised or lowered to it and the value
used reported; RELEASE is left out of a default fault mask; a parameter that the scope does not have is a load
error; every other parameter stays. That the lowest seven bits of a mask's value are read is the model's choice
(notes/assumptions/21.md). -/
def Obligations.ParamRecordWritesOneParameter : Prop :=
  ∀ (tag fb n : Byte) (v : BitVec 32) (s : State), s.store.load = .loading →
    ∀ fields, fields = fb :: n :: be4 v.toNat → Front ⟨0x05#8, tag, 5#8 :: fields⟩ s →
    ∃ t, exec (.loadRecordParam tag fields) s = .next t
      ∧ (∀ f, faceOfByte fb = some f →
          (∀ row ∈ parameterTable, row.1 = n.toNat →
              row.2.2.2 (t.params f) = max row.2.1 (min row.2.2.1 v.toNat)
                ∧ (∀ other ∈ parameterTable, other.1 ≠ n.toNat →
                    other.2.2.2 (t.params f) = other.2.2.2 (s.params f))
                ∧ (t.params f).defaultMask = (s.params f).defaultMask
                ∧ OnlyReplied ⟨0x05#8, tag, 5#8 :: fields⟩
                    (if row.2.1 ≤ v.toNat ∧ v.toNat ≤ row.2.2.1 then .done else .doneClamped)
                    (if row.2.1 ≤ v.toNat ∧ v.toNat ≤ row.2.2.1 then []
                      else if row.2.2.1 ≤ 255 then be1 (max row.2.1 (min row.2.2.1 v.toNat))
                      else be2 (max row.2.1 (min row.2.2.1 v.toNat)))
                    { s with store := s.store.modCfg f fun c => { c with params := t.params f } } t)
            ∧ (n = 20#8 →
                OnlyReplied ⟨0x05#8, tag, 5#8 :: fields⟩
                  (if v.getLsbD 6 then .doneClamped else .done)
                  (if v.getLsbD 6 then [(v.setWidth 6).setWidth 8] else [])
                  { s with
                    store := s.store.modCfg f fun c =>
                      { c with params := { c.params with defaultMask := (v.setWidth 6).setWidth 7 } } } t)
            ∧ (n = 0#8 ∨ 20 < n.toNat →
                OnlyReplied ⟨0x05#8, tag, 5#8 :: fields⟩ .loadError [1#8, 5#8, 2#8, 0#8] s t))
      ∧ (fb = 0xFF#8 →
          if n = 21#8 then
            OnlyReplied ⟨0x05#8, tag, 5#8 :: fields⟩ (if v.toNat ≤ 1 then .done else .doneClamped)
              (if v.toNat ≤ 1 then [] else [1#8]) { s with store := { s.store with fireSense := min 1 v.toNat } } t
          else OnlyReplied ⟨0x05#8, tag, 5#8 :: fields⟩ .loadError [1#8, 5#8, 2#8, 0#8] s t)

/-- The collections keep their keys ascending (R1, R5): a record put in is found under its key, every other key
finds what it found before, and the number of records rises by one where the key is new. -/
def Obligations.CollectionsAreKeyed : Prop :=
  ∀ (α : Type) (key : α → Nat) (x : α) (xs : List α), Ascending key xs →
    Ascending key (putKeyed key x xs)
      ∧ (putKeyed key x xs).find? (fun y => key y = key x) = some x
      ∧ (∀ k, k ≠ key x → (putKeyed key x xs).find? (fun y => key y = k) = xs.find? (fun y => key y = k))
      ∧ (putKeyed key x xs).length = if ∃ y ∈ xs, key y = key x then xs.length else xs.length + 1

/-- The checks of LOAD END are those of the rules, in their order, and so is its outcome (R13, R14, R15): the first
check that fails is reported with its record kind, face and key; without the flag both faces must pass; with it
one face that passes is enough and the other is left out, and where neither passes the failure is that of a face
that is not unloaded, face A first. -/
def Obligations.LoadChecksAreTheRules : Prop :=
  ∀ st : Store,
    (platformFail st = none ↔ PlatformSound st)
      ∧ (∀ f, faceFail st f = none ↔ FaceSound (st.cfg.get f))
      ∧ (∀ x, platformFail st = some x ↔ PlatformFails st x)
      ∧ (∀ f x, faceFail st f = some x ↔ FaceFails st f x)
      ∧ (∀ pass, loadOutcome st false = .inr pass ↔
          PlatformSound st ∧ FaceSound st.cfg.a ∧ FaceSound st.cfg.b ∧ pass = ⟨true, true⟩)
      ∧ (∀ pass, loadOutcome st true = .inr pass ↔
          PlatformSound st ∧ (pass.a = true ∨ pass.b = true)
            ∧ (pass.a = true ↔ FaceSound st.cfg.a) ∧ (pass.b = true ↔ FaceSound st.cfg.b))
      ∧ ∀ early x, loadOutcome st early = .inl x ↔ LoadFailure st early x

/-- LOAD END under either flag (R13, R14, R16, R128): refused with STATE while no load is open; a failed check
leaves the load open and is reported with its check, record kind, face and keys, the fourth byte free
(notes/assumptions/4.md); otherwise the configuration comes into force, and each face that passed enters SURVEY,
or RELEASED where a release cause is found, with its Bay Table, mask and dwell values from it (R6, R89, R95, R109,
R138): every entry is fresh, with a qualifier and a decoder exactly as its bay is fitted, the master begins polling
at the first bay record, the lowest where they ascend, no flag is set but RELEASE by such a cause, and in SURVEY none
is and the Fault Record is empty. That the WARN with datum off of that entry goes out before the first poll is the
model's choice (notes/assumptions/17.md), as is that the frames already sent on the bus stand
(notes/assumptions/26.md). A face that did not pass loses its records and stays out of service. That any byte but 0
is a set flag is the model's choice (notes/assumptions/20.md), as is that the faces' bytes in the reply have no count
before them (notes/assumptions/44.md). -/
def Obligations.LoadEndJudgesTheLoad : Prop :=
  ∀ (c : Instr) (tag flag : Byte) (s : State), c = .loadEnd tag [flag] ∨ c = .loadEndEarly tag [flag] →
    Front ⟨0x06#8, tag, [flag]⟩ s →
    (s.store.load = .idle → ∃ t, exec c s = .next t ∧ OnlyReplied ⟨0x06#8, tag, [flag]⟩ .state [] s t)
      ∧ (s.store.load = .loading → ∀ x, loadOutcome s.store (decide (flag ≠ 0#8)) = .inl x →
          ∃ t, exec c s = .next t
            ∧ OnlyReplied ⟨0x06#8, tag, [flag]⟩ .loadError
                (be1 x.check ++ be1 x.kind ++ opt1 (x.face.map faceNumber) ++ [Config.freeByte s.freeCount]
                  ++ opt1 x.key ++ opt1 x.door)
                { s with freeCount := s.freeCount + 1 } t)
      ∧ (s.store.load = .loading → ∀ pass, loadOutcome s.store (decide (flag ≠ 0#8)) = .inr pass →
          (∀ f, s.stateOf f = .outOfService) →
          ∃ t, exec c s = .next t
            ∧ Replied ⟨0x06#8, tag, [flag]⟩ .done (bool1 pass.a ++ bool1 pass.b) s t
            ∧ t.store.load = .idle ∧ t.store.valid = true ∧ t.store.broughtIn = pass
            ∧ t.store.consists = s.store.consists ∧ t.store.fireSense = s.store.fireSense
            ∧ t.time = s.time ∧ t.fire = s.fire ∧ t.pending = s.pending
            ∧ NextEvent ⟨.loadDone, none, none, s.time, [yesNo pass.a, yesNo pass.b]⟩ s t
            ∧ ∀ f,
              (t.face f).enable = (s.face f).enable ∧ (t.face f).loop = (s.face f).loop
                ∧ (pass.get f = false → t.stateOf f = .outOfService ∧ t.cfg f = {})
                ∧ (pass.get f = true →
                    t.cfg f = s.cfg f
                      ∧ (t.face f).bays.map (·.num) = (s.cfg f).bays.map (·.num)
                      ∧ (∀ (i : Nat) (g : BayGeometry), (s.cfg f).bays[i]? = some g →
                          ∃ e, (t.face f).bays[i]? = some e ∧ FreshEntry g e
                            ∧ (s.causesFound f = [] ∨ (s.face f).meas.status ≠ .current →
                                e.inFlight = none ∧ e.waiting = none))
                      ∧ (t.face f).bus.cursor = (s.cfg f).bays.head?.map (·.num)
                      ∧ (((s.cfg f).bays.map (·.num)).Pairwise (· < ·) →
                          ∀ n, (t.face f).bus.cursor = some n → ∀ g ∈ (s.cfg f).bays, n ≤ g.num)
                      ∧ (t.face f).bus.polls = 0 ∧ (t.face f).bus.search = .idle
                      ∧ (t.face f).bus.queryNext = false ∧ (t.face f).bus.outstanding = none
                      ∧ (t.face f).bus.turning = false ∧ (t.face f).bus.dispatch = []
                      ∧ (t.face f).sensing = ⟨none, none⟩
                      ∧ (∀ fl : Flag, fl ≠ .release → (t.face f).fault.flags.get fl = none)
                      ∧ (s.causesFound f = [] →
                          (∀ fl : Flag, (t.face f).fault.flags.get fl = none)
                            ∧ (t.face f).fault.record = none ∧ (t.face f).fault.summary = false
                            ∧ (t.face f).permit = false
                            ∧ (t.face f).bus.gap = [.groupWarn false]
                            ∧ (t.face f).bus.out = (s.face f).bus.out)
                      ∧ (s.causesFound f ≠ [] → (t.face f).fault.flags.release = some ⟨none, s.time⟩)
                      ∧ (t.face f).fault.mask = (s.params f).defaultMask
                      ∧ (t.face f).seq.override = false
                      ∧ (t.face f).seq.dwell =
                          some ⟨(s.params f).dwellBase, (s.params f).dwellMode, (s.params f).extensionStep⟩
                      ∧ t.stateOf f = if s.causesFound f = [] then .survey else .released))

/-! ### Orders to a face -/

/-- EXPECT CONSIST (R35): the staged slot takes the code, lowered to 254 where it is greater, and the train
number where one is sent; code 0 empties it. The reply carries the staged and the active expectation. An
OUT_OF_SERVICE face refuses it with STATE. That a clamped code comes first in the reply and in one byte is the
model's choice, its reading of section 11.2 (notes/assumptions/22.md). -/
def Obligations.ExpectConsistStagesOne : Prop :=
  ∀ (tag fb : Byte) (code : BitVec 16) (train : Option (BitVec 16)) (f : Face) (s : State),
    faceOfByte fb = some f → Configured s →
    ∀ p, p = fb :: (be2 code.toNat ++ (train.map fun n => be2 n.toNat).getD []) → Front ⟨0x0E#8, tag, p⟩ s →
    (s.stateOf f = .outOfService →
        ∃ t, exec (.expectConsist tag p) s = .next t ∧ OnlyReplied ⟨0x0E#8, tag, p⟩ .state [] s t)
      ∧ (s.stateOf f ≠ .outOfService → Composed s →
          ∀ staged, staged = (if code = 0#16 then none else some ⟨min 254 code.toNat, train⟩) →
          ∃ t, exec (.expectConsist tag p) s = .next t
            ∧ OnlyReplied ⟨0x0E#8, tag, p⟩ (if code.toNat ≤ 254 then .done else .doneClamped)
                ((if code.toNat ≤ 254 then [] else [254#8]) ++ expectationBytes staged
                  ++ expectationBytes (s.face f).berth.active)
                (modBerth f (fun b => { b with staged := staged }) s) t)

/-- OPEN ORDER (R68, R69): the id, the face state and the slot are examined in this order; an order that passes
them is placed, and waits with the detail PENDING where the acceptance test fails. -/
def Obligations.OpenOrderIsExamined : Prop :=
  ∀ (tag fb id : Byte) (f : Face) (s : State), faceOfByte fb = some f → Configured s →
    Front ⟨0x0F#8, tag, [fb, id]⟩ s →
    ∃ t, exec (.openOrder tag [fb, id]) s = .next t
      ∧ if id = 0#8 ∨ id.toNat ∈ (s.face f).seq.acceptedIds then
          OnlyReplied ⟨0x0F#8, tag, [fb, id]⟩ .badId [] s t
        else if ¬(s.stateOf f = .empty ∨ s.stateOf f = .arriving ∨ s.stateOf f = .measuring
            ∨ s.stateOf f = .berthed) then
          OnlyReplied ⟨0x0F#8, tag, [fb, id]⟩ .state [] s t
        else if (s.face f).seq.slot ≠ none then OnlyReplied ⟨0x0F#8, tag, [fb, id]⟩ .orderPending [] s t
        else
          ¬MayOpen f s → Composed s →
            OnlyReplied ⟨0x0F#8, tag, [fb, id]⟩ .done [2#8] (modSeq f (fun r => { r with slot := some id }) s) t

/-- An OPEN ORDER that meets the acceptance test (R68, R69, R70) opens the face at once: the id is accepted, the
door enable list is the record's, every granted bay is ordered OPEN, the open travel deadline is set and the
permit is withdrawn. The premises leave out a vacant face, which passes on, and a face whose every granted bay
is open already, which enters OPEN at the same moment. -/
def Obligations.AcceptedOrderOpensTheFace : Prop :=
  ∀ (tag fb id : Byte) (f : Face) (s : State), faceOfByte fb = some f → Configured s →
    Front ⟨0x0F#8, tag, [fb, id]⟩ s → id ≠ 0#8 → id.toNat ∉ (s.face f).seq.acceptedIds →
    (s.face f).seq.slot = none → MayOpen f s → (s.face f).berth.vacant = false →
    (∃ n ∈ (s.face f).seq.grant, (s.bay f n).any BayEntry.leafOpen = false) →
    ∃ t, exec (.openOrder tag [fb, id]) s = .next t
      ∧ Replied ⟨0x0F#8, tag, [fb, id]⟩ .done [1#8] s t ∧ Leaves f s t
      ∧ (t.face f).seq =
          { (s.face f).seq with
            state := .opening
            substate := none
            dwellDeadline := none
            lastAccepted := some id
            acceptedIds := insertAsc id.toNat (s.face f).seq.acceptedIds
            openTravel := some (s.time + sec (s.params f).openTravel)
            failed := []
            hold := (s.face f).seq.hold.map fun h => { h with countingStart := none } }
      ∧ (t.face f).berth =
          { (s.face f).berth with
            doorList := if (s.face f).meas.status = .current then (s.face f).meas.doorList else [] }
      ∧ (t.face f).meas = (s.face f).meas ∧ (t.face f).release = (s.face f).release
      ∧ (t.face f).fault = (s.face f).fault ∧ (t.face f).sensing = (s.face f).sensing
      ∧ (t.face f).permit = false
      ∧ (∀ n ∈ (s.face f).seq.grant, ∀ e, t.bay f n = some e →
          e.inFlight = some .openLeaf ∨ e.waiting = some .openLeaf)
      ∧ NextEvent ⟨.orderAccepted, some f, none, s.time, [id.toNat]⟩ s t

/-- WITHDRAW ORDER (R71, R162): it needs configuration, it is examined in every face state, an id of 0 is refused
with BAD_ID, the outcome of any other id is where it stands, and it changes no state but the slot. That R162's
refusal comes before R71's outcomes is the model's reading of the two rules (notes/assumptions/37.md). -/
def Obligations.WithdrawOrderFindsTheId : Prop :=
  ∀ (tag fb id : Byte) (f : Face) (s : State), faceOfByte fb = some f →
    Front ⟨0x10#8, tag, [fb, id]⟩ s →
    (s.store.load = .loading →
        ∃ t, exec (.withdrawOrder tag [fb, id]) s = .next t
          ∧ OnlyReplied ⟨0x10#8, tag, [fb, id]⟩ .loading [] s t)
      ∧ (s.store.load = .idle → s.store.valid = false →
          ∃ t, exec (.withdrawOrder tag [fb, id]) s = .next t
            ∧ OnlyReplied ⟨0x10#8, tag, [fb, id]⟩ .noConfig [] s t)
      ∧ (Configured s → Composed s →
          ∃ t, exec (.withdrawOrder tag [fb, id]) s = .next t
            ∧ if id = 0#8 then OnlyReplied ⟨0x10#8, tag, [fb, id]⟩ .badId [] s t
              else if (s.face f).seq.slot = some id then
                OnlyReplied ⟨0x10#8, tag, [fb, id]⟩ .done [1#8] (modSeq f (fun r => { r with slot := none }) s) t
              else if (s.face f).seq.lastAccepted = some id then
                OnlyReplied ⟨0x10#8, tag, [fb, id]⟩ .tooLate [] s t
              else OnlyReplied ⟨0x10#8, tag, [fb, id]⟩ .noSuchOrder [] s t)

/-- CLOSE ORDER (R78, R81, R88): an OPEN face with a bay not locked enters CLOSING with kind NORMAL and its
warning; one with every bay locked and no gap ACTIVE passes to CLOSED_LOCKED at once; a HELD face stays HELD and
closes its bays; every other state refuses it. -/
def Obligations.CloseOrderStartsAClosing : Prop :=
  ∀ (tag fb : Byte) (f : Face) (s : State), faceOfByte fb = some f → Configured s →
    Front ⟨0x11#8, tag, [fb]⟩ s →
    (s.stateOf f = .opened → (∃ e ∈ (s.face f).bays, e.locked = false) →
        ∃ t, exec (.closeOrder tag [fb]) s = .next t
          ∧ Replied ⟨0x11#8, tag, [fb]⟩ .done [] s t ∧ Leaves f s t
          ∧ (t.face f).seq =
              { (s.face f).seq with
                state := .closing
                substate := none
                dwellDeadline := none
                hold := none
                closing := (s.face f).bays.map fun e =>
                  ⟨e.num, if e.locked then .locked else .waiting, 0, none, false, false, none⟩
                closingKind := some .normal
                warning := true
                endOfWarning := some (s.time + sec (s.params f).warningPeriod)
                doorway := none }
          ∧ (t.face f).berth = { (s.face f).berth with doorList := [] }
          ∧ (t.face f).bus =
              { (s.face f).bus with dispatch := (s.face f).bus.dispatch ++ [.groupWarn true] }
          ∧ (t.face f).bays = (s.face f).bays ∧ (t.face f).meas = (s.face f).meas
          ∧ (t.face f).sensing = (s.face f).sensing ∧ (t.face f).release = (s.face f).release
          ∧ (t.face f).fault = (s.face f).fault ∧ (t.face f).permit = false
          ∧ NextEvent ⟨.closing, some f, none, s.time, [2]⟩ s t)
      ∧ (s.stateOf f = .opened → (∀ e ∈ (s.face f).bays, e.locked = true ∧ e.gapIsActive = false) →
          (s.face f).berth.vacant = false →
          ∃ t, exec (.closeOrder tag [fb]) s = .next t
            ∧ Replied ⟨0x11#8, tag, [fb]⟩ .done [] s t ∧ Leaves f s t
            ∧ t.stateOf f = .closedLocked ∧ (t.face f).seq.hold = none
            ∧ (t.face f).seq.closingKind = none ∧ (t.face f).berth.doorList = []
            ∧ (s.events.length + 2 ≤ 64 →
                s.events ++ [⟨.closing, some f, none, s.time, [2]⟩, ⟨.closedLocked, some f, none, s.time, [0]⟩]
                  <+: t.events))
      ∧ (s.stateOf f = .held → (∃ e ∈ (s.face f).bays, e.locked = false) →
          ∃ t, exec (.closeOrder tag [fb]) s = .next t
            ∧ Replied ⟨0x11#8, tag, [fb]⟩ .done [] s t ∧ Leaves f s t
            ∧ (t.face f).seq =
                { (s.face f).seq with
                  closing := (s.face f).bays.map fun e =>
                    if e.locked then ⟨e.num, .locked, 0, none, false, false, none⟩
                    else ⟨e.num, .sent, 0, none, false, false, some (s.time + sec (s.params f).openTravel)⟩
                  closingKind := some .heldClose
                  endOfWarning := none
                  doorway := none }
            ∧ (t.face f).meas = (s.face f).meas ∧ (t.face f).fault = (s.face f).fault
            ∧ ∀ e ∈ (s.face f).bays, e.locked = false → ∀ e', t.bay f e.num = some e' →
                e'.inFlight = some .closeLeaf ∨ e'.waiting = some .closeLeaf)
      ∧ (s.stateOf f ≠ .opened → s.stateOf f ≠ .held →
          ∃ t, exec (.closeOrder tag [fb]) s = .next t ∧ OnlyReplied ⟨0x11#8, tag, [fb]⟩ .state [] s t)

/-- REMEASURE (R66, R38, R39): a BERTHED face enters MEASURING with a new record of its berth consist, which the
Alignment Unit samples at once or keeps waiting while it serves the other face; with no berth consist the record
completes with NO_CONSIST and ALIGN. Any other state refuses it. -/
def Obligations.RemeasureMeasuresAgain : Prop :=
  ∀ (tag fb : Byte) (f : Face) (s : State), faceOfByte fb = some f → Configured s →
    Front ⟨0x12#8, tag, [fb]⟩ s →
    (s.stateOf f = .berthed → (s.face f).berth.vacant = false →
        ∀ code src, (s.face f).berth.consist = some (code, src) →
        ∃ t, exec (.remeasure tag [fb]) s = .next t
          ∧ Replied ⟨0x12#8, tag, [fb]⟩ .done [] s t ∧ Leaves f s t
          ∧ t.stateOf f = .measuring ∧ (t.face f).seq.slot = (s.face f).seq.slot
          ∧ (t.face f).seq.lastAccepted = (s.face f).seq.lastAccepted
          ∧ (t.face f).fault = (s.face f).fault ∧ (t.face f).release = (s.face f).release
          ∧ (t.face f).bays = (s.face f).bays.map (fun e => { e with cls := none, granted := false })
          ∧ (s.serving ≠ some (otherFace f) → t.serving = some f)
          ∧ (s.serving = some (otherFace f) → t.serving = s.serving ∧ t.waitingFor = some f)
          ∧ (t.face f).meas =
              { consist := some code
                source := some src
                antenna := (s.store.consists.find? (fun c => c.code = code)).map (·.antenna)
                mark := ((s.cfg f).stops.find? (fun m => m.code = code)).map (·.mark)
                tolerance := ((s.cfg f).stops.find? (fun m => m.code = code)).map (·.tolerance)
                requestTime := some s.time
                status := if s.serving = some (otherFace f) then .waiting else .sampling
                startTime := if s.serving = some (otherFace f) then none else some s.time })
      ∧ (s.stateOf f = .berthed → (s.face f).berth.vacant = false → (s.face f).berth.consist = none →
          s.serving ≠ some f →
          ∃ t, exec (.remeasure tag [fb]) s = .next t
            ∧ Replied ⟨0x12#8, tag, [fb]⟩ .done [] s t ∧ Leaves f s t
            ∧ (t.stateOf f = .berthed ∨ t.stateOf f = .held)
            ∧ (t.face f).fault.flags.align.isSome = true ∧ (t.face f).seq.grant = []
            ∧ (t.face f).meas =
                { requestTime := some s.time
                  verdict := some .noConsist
                  status := .current
                  completion := some s.time })
      ∧ (s.stateOf f ≠ .berthed →
          ∃ t, exec (.remeasure tag [fb]) s = .next t ∧ OnlyReplied ⟨0x12#8, tag, [fb]⟩ .state [] s t)

/-- DWELL SET (R77, R162): the three values, each brought into its range, become the working dwell values of a
face in service; in OPEN the dwell starts again in every substate, the cap deadline goes, and the extension
count and the rest of the hold record are kept. -/
def Obligations.DwellSetRewritesTheDwell : Prop :=
  ∀ (tag fb mode : Byte) (base step : BitVec 16) (f : Face) (s : State),
    faceOfByte fb = some f → Configured s →
    ∀ p, p = fb :: (be2 base.toNat ++ [mode] ++ be2 step.toNat) → Front ⟨0x13#8, tag, p⟩ s →
    (s.stateOf f = .outOfService →
        ∃ t, exec (.dwellSet tag p) s = .next t ∧ OnlyReplied ⟨0x13#8, tag, p⟩ .state [] s t)
      ∧ (s.stateOf f ≠ .outOfService → Composed s →
          ∀ b m x, b = max 5 (min 180 base.toNat) → m = min 1 mode.toNat → x = max 2 (min 20 step.toNat) →
          ∃ t, exec (.dwellSet tag p) s = .next t
            ∧ OnlyReplied ⟨0x13#8, tag, p⟩
                (if b = base.toNat ∧ m = mode.toNat ∧ x = step.toNat then .done else .doneClamped)
                ((if b = base.toNat then [] else be1 b) ++ (if m = mode.toNat then [] else be1 m)
                  ++ (if x = step.toNat then [] else be1 x))
                (modSeq f
                  (fun r =>
                    if r.state = .opened then
                      { r with
                        dwell := some ⟨b, m, x⟩
                        override := true
                        dwellDeadline := some (s.time + sec b)
                        substate := some .dwell
                        hold := r.hold.map fun h => { h with capDeadline := none } }
                    else { r with dwell := some ⟨b, m, x⟩, override := true })
                  s) t)

/-- CONNECT HOLD (R79, R80, R162): refused with HOLD_LOOP while the other face holds a record, then with STATE
outside the six states; accepted, it makes a record or replaces the minimum and the cap, and a face that waits
with the new minimum not met waits for the new cap. A face that waits with the new minimum met does at once as at
a satisfied expiry, here with auto close off and so to EXPIRED, or with auto close on and a bay not locked and so to
CLOSING with its record cleared. The reply carries the record. That the clamped values come first in the reply, and
that it carries the cap deadline itself, are the model's choices, its reading of section 11.2
(notes/assumptions/22.md). -/
def Obligations.ConnectHoldMakesARecord : Prop :=
  ∀ (tag fb : Byte) (minimum cap : BitVec 16) (f : Face) (s : State),
    faceOfByte fb = some f → Configured s →
    ∀ p, p = fb :: (be2 minimum.toNat ++ be2 cap.toNat) → Front ⟨0x14#8, tag, p⟩ s →
    ((s.face (otherFace f)).seq.hold ≠ none →
        ∃ t, exec (.connectHold tag p) s = .next t ∧ OnlyReplied ⟨0x14#8, tag, p⟩ .holdLoop [] s t)
      ∧ ((s.face (otherFace f)).seq.hold = none →
          ¬(s.stateOf f = .empty ∨ s.stateOf f = .arriving ∨ s.stateOf f = .measuring ∨ s.stateOf f = .berthed
            ∨ s.stateOf f = .opening ∨ s.stateOf f = .opened) →
          ∃ t, exec (.connectHold tag p) s = .next t ∧ OnlyReplied ⟨0x14#8, tag, p⟩ .state [] s t)
      ∧ ((s.face (otherFace f)).seq.hold = none → Composed s →
          (s.stateOf f = .empty ∨ s.stateOf f = .arriving ∨ s.stateOf f = .measuring ∨ s.stateOf f = .berthed
            ∨ s.stateOf f = .opening ∨ s.stateOf f = .opened) →
          ∀ (m c : Nat) (h : HoldRecord), m = min 120 minimum.toNat → c = max 10 (min 300 cap.toNat) →
          h.minimum = m → h.cap = c →
          h.accumulated = ((s.face f).seq.hold.map (·.accumulated)).getD 0 →
          ((s.face f).seq.hold = none →
              h.countingStart = if s.stateOf f = .opened then some s.time else none) →
          (∀ old, (s.face f).seq.hold = some old → h.countingStart = old.countingStart) →
          ((s.face f).seq.substate ≠ some .connectionWait ∧
              h.capDeadline = (s.face f).seq.hold.bind (·.capDeadline)
            ∨ (s.face f).seq.substate = some .connectionWait ∧ h.accumulated < m * 1000 ∧
              h.capDeadline = some (s.time + sec c)) →
          ∃ t, exec (.connectHold tag p) s = .next t
            ∧ OnlyReplied ⟨0x14#8, tag, p⟩
                (if m = minimum.toNat ∧ c = cap.toNat then .done else .doneClamped)
                ((if m = minimum.toNat then [] else be1 m) ++ (if c = cap.toNat then [] else be2 c)
                  ++ be1 m ++ be2 c ++ be4 h.accumulated ++ optTime h.countingStart ++ optTime h.capDeadline)
                (modSeq f (fun r => { r with hold := some h }) s) t)
      ∧ ((s.face (otherFace f)).seq.hold = none → s.stateOf f = .opened →
          (s.face f).seq.substate = some .connectionWait →
          ∀ (m c : Nat) (old : HoldRecord), m = min 120 minimum.toNat → c = max 10 (min 300 cap.toNat) →
          (s.face f).seq.hold = some old → m * 1000 ≤ old.accumulated →
          ((s.params f).autoClose = 0 → Composed s →
              ∃ t, exec (.connectHold tag p) s = .next t
                ∧ OnlyReplied ⟨0x14#8, tag, p⟩
                    (if m = minimum.toNat ∧ c = cap.toNat then .done else .doneClamped)
                    ((if m = minimum.toNat then [] else be1 m) ++ (if c = cap.toNat then [] else be2 c)
                      ++ be1 m ++ be2 c ++ be4 old.accumulated ++ optTime old.countingStart
                      ++ [0xFF#8, 0xFF#8, 0xFF#8, 0xFF#8])
                    (modSeq f
                      (fun r =>
                        { r with
                          substate := some .expired
                          dwellDeadline := none
                          hold := some { old with minimum := m, cap := c, capDeadline := none } })
                      s) t)
            ∧ ((s.params f).autoClose = 1 → (∃ e ∈ (s.face f).bays, e.locked = false) →
                ∃ t, exec (.connectHold tag p) s = .next t
                  ∧ Replied ⟨0x14#8, tag, p⟩
                      (if m = minimum.toNat ∧ c = cap.toNat then .done else .doneClamped)
                      ((if m = minimum.toNat then [] else be1 m) ++ (if c = cap.toNat then [] else be2 c)
                        ++ List.replicate 15 0xFF#8) s t
                  ∧ Leaves f s t ∧ t.stateOf f = .closing ∧ (t.face f).seq.hold = none
                  ∧ (t.face f).seq.closingKind = some .normal
                  ∧ (t.face f).seq.endOfWarning = some (s.time + sec (s.params f).warningPeriod)
                  ∧ NextEvent ⟨.closing, some f, none, s.time, [1]⟩ s t))

/-- CONNECT CANCEL (R80): the record is cleared, with the detail 1 where none was held; a face that waits for
its hold does at once as at a satisfied expiry, here with auto close off and so to EXPIRED, or with auto close
on and a bay not locked and so to CLOSING. The byte of an absent detail is the model's reading of section 11.2
(notes/assumptions/22.md). -/
def Obligations.ConnectCancelClearsTheRecord : Prop :=
  ∀ (tag fb : Byte) (f : Face) (s : State), faceOfByte fb = some f → Configured s →
    Front ⟨0x15#8, tag, [fb]⟩ s →
    ((s.face f).seq.hold = none →
        ∃ t, exec (.connectCancel tag [fb]) s = .next t ∧ OnlyReplied ⟨0x15#8, tag, [fb]⟩ .done [1#8] s t)
      ∧ ((s.face f).seq.hold ≠ none → Composed s → (s.face f).seq.substate ≠ some .connectionWait →
          ∃ t, exec (.connectCancel tag [fb]) s = .next t
            ∧ OnlyReplied ⟨0x15#8, tag, [fb]⟩ .done [0xFF#8] (modSeq f (fun r => { r with hold := none }) s) t)
      ∧ ((s.face f).seq.hold ≠ none → Composed s → (s.face f).seq.substate = some .connectionWait →
          (s.params f).autoClose = 0 →
          ∃ t, exec (.connectCancel tag [fb]) s = .next t
            ∧ OnlyReplied ⟨0x15#8, tag, [fb]⟩ .done [0xFF#8]
                (modSeq f
                  (fun r => { r with hold := none, substate := some .expired, dwellDeadline := none }) s) t)
      ∧ ((s.face f).seq.hold ≠ none → (s.face f).seq.substate = some .connectionWait →
          (s.params f).autoClose = 1 → (∃ e ∈ (s.face f).bays, e.locked = false) →
          ∃ t, exec (.connectCancel tag [fb]) s = .next t
            ∧ Replied ⟨0x15#8, tag, [fb]⟩ .done [0xFF#8] s t ∧ Leaves f s t
            ∧ t.stateOf f = .closing ∧ (t.face f).seq.hold = none
            ∧ (t.face f).seq.closingKind = some .normal
            ∧ (t.face f).seq.endOfWarning = some (s.time + sec (s.params f).warningPeriod)
            ∧ NextEvent ⟨.closing, some f, none, s.time, [1]⟩ s t)

/-- ISOLATE BAY and RESTORE BAY (R164, R161): a bay that is not configured is refused with BAD_BAY, a face outside
EMPTY, BERTHED, CLOSED_LOCKED and HELD with STATE; accepted, the mark is set or cleared, the detail says whether it
changed, and nothing else changes where no order waits or the acceptance test fails; where the test passes, the face
opens with the waiting order (R69, R70). -/
def Obligations.IsolationMarksTheBay : Prop :=
  ∀ (c : Instr) (mark : Bool) (tag fb n : Byte) (f : Face) (fr : Machine.Frame) (s : State),
    faceOfByte fb = some f → Configured s → requestFrame c = some fr → Front fr s →
    (c = .isolateBay tag [fb, n] ∧ mark = true ∨ c = .restoreBay tag [fb, n] ∧ mark = false) →
    (s.bay f n.toNat = none → ∃ t, exec c s = .next t ∧ OnlyReplied fr .badBay [] s t)
      ∧ ∀ e, s.bay f n.toNat = some e →
        (¬(s.stateOf f = .empty ∨ s.stateOf f = .berthed ∨ s.stateOf f = .closedLocked ∨ s.stateOf f = .held) →
            ∃ t, exec c s = .next t ∧ OnlyReplied fr .state [] s t)
          ∧ ((s.stateOf f = .empty ∨ s.stateOf f = .berthed ∨ s.stateOf f = .closedLocked ∨ s.stateOf f = .held) →
              Composed s →
              ((s.face f).seq.slot = none
                ∨ ¬MayOpen f (modBay f n.toNat (fun e => { e with isolated := mark }) s)) →
              ∃ t, exec c s = .next t
                ∧ OnlyReplied fr .done [if e.isolated = mark then 0#8 else 1#8]
                    (modBay f n.toNat (fun e => { e with isolated := mark }) s) t)
          ∧ ∀ id u, u = modBay f n.toNat (fun e => { e with isolated := mark }) s → WouldOpen f id u →
              ∃ t, exec c s = .next t
                ∧ Replied fr .done [if e.isolated = mark then 0#8 else 1#8] s t
                ∧ Leaves f s t ∧ Opened f id u t
                ∧ ∀ e', t.bay f n.toNat = some e' → e'.isolated = mark

/-! ### Faults and release -/

/-- FAULT MASK (R141, R147, R148): the mask is replaced with RELEASE left out, and nothing else changes where the
summary does not become set and no waiting order becomes acceptable; a waiting order that does opens the face (R69,
R70). Where the summary becomes set, the Fault Record is captured with cause MASK_CHANGE for the first flag of the
precedence that this unmasked, and the face enters HELD from the eight states of R143 and stays in any other. -/
def Obligations.FaultMaskIsReplaced : Prop :=
  ∀ (tag fb b : Byte) (f : Face) (s : State), faceOfByte fb = some f → Configured s →
    Front ⟨0x18#8, tag, [fb, b]⟩ s →
    ∀ (m : FlagSet) (u : FaultUnit), m = (b.setWidth 6).setWidth 7 → u = { (s.face f).fault with mask := m } →
    (s.stateOf f = .outOfService →
        ∃ t, exec (.faultMask tag [fb, b]) s = .next t ∧ OnlyReplied ⟨0x18#8, tag, [fb, b]⟩ .state [] s t)
      ∧ (s.stateOf f ≠ .outOfService → Composed s →
          ((s.face f).fault.summary = true ∨ u.summary = false) →
          ((s.face f).seq.slot = none ∨ ¬MayOpen f (modFault f (fun _ => u) s)) →
          ∃ t, exec (.faultMask tag [fb, b]) s = .next t
            ∧ OnlyReplied ⟨0x18#8, tag, [fb, b]⟩ (if b.getLsbD 6 then .doneClamped else .done)
                (be1 m.toNat ++ bool1 u.summary) (modFault f (fun _ => u) s) t)
      ∧ (((s.face f).fault.summary = true ∨ u.summary = false) →
          ∀ id, WouldOpen f id (modFault f (fun _ => u) s) →
          ∃ t, exec (.faultMask tag [fb, b]) s = .next t
            ∧ Replied ⟨0x18#8, tag, [fb, b]⟩ (if b.getLsbD 6 then .doneClamped else .done)
                (be1 m.toNat ++ bool1 u.summary) s t
            ∧ Leaves f s t ∧ Opened f id (modFault f (fun _ => u) s) t ∧ (t.face f).fault = u)
      ∧ (s.stateOf f ≠ .outOfService → (s.face f).fault.summary = false → u.summary = true →
          ∃ t, exec (.faultMask tag [fb, b]) s = .next t
            ∧ Replied ⟨0x18#8, tag, [fb, b]⟩ (if b.getLsbD 6 then .doneClamped else .done)
                (be1 m.toNat ++ [1#8]) s t
            ∧ Leaves f s t ∧ (t.face f).fault.mask = m ∧ (t.face f).fault.flags = (s.face f).fault.flags
            ∧ (t.stateOf f =
                if s.stateOf f = .survey ∨ s.stateOf f = .held ∨ s.stateOf f = .released then s.stateOf f
                else .held)
            ∧ ∃ fl, [Flag.release, .lock, .gap, .obstruct, .silent, .link, .align].find?
                  (fun fl => ((s.face f).fault.flags.get fl).isSome
                    && FlagSet.has (s.face f).fault.mask fl && !FlagSet.has m fl) = some fl
                ∧ (t.face f).fault.record = some
                    { flag := fl
                      bay := ((s.face f).fault.flags.get fl).bind (·.bay)
                      state := s.stateOf f
                      substate := (s.face f).seq.substate
                      lastAccepted := (s.face f).seq.lastAccepted
                      time := s.time
                      byMask := true })

/-- FAULT CLEAR (R149): the flags named, or all of them with bit 7, are cleared; the Fault Record goes where the
summary is then clear; the number cleared is posted; the face state stays. -/
def Obligations.FaultClearClearsTheNamedFlags : Prop :=
  ∀ (tag fb b : Byte) (f : Face) (s : State), faceOfByte fb = some f → Configured s →
    Front ⟨0x19#8, tag, [fb, b]⟩ s →
    (s.stateOf f = .outOfService →
        ∃ t, exec (.faultClear tag [fb, b]) s = .next t ∧ OnlyReplied ⟨0x19#8, tag, [fb, b]⟩ .state [] s t)
      ∧ (s.stateOf f ≠ .outOfService → Composed s →
          ∃ t u, exec (.faultClear tag [fb, b]) s = .next t
            ∧ u.mask = (s.face f).fault.mask
            ∧ (∀ fl, u.flags.get fl =
                if b.getLsbD 7 = true ∨ b.getLsbD (fl.number - 1) = true then none
                else (s.face f).fault.flags.get fl)
            ∧ u.record = (if u.summary then (s.face f).fault.record else none)
            ∧ OnlyReplied ⟨0x19#8, tag, [fb, b]⟩ .done (be1 u.flags.toSet.toNat ++ bool1 u.summary)
                (post .faultCleared (some f) none
                  [([Flag.align, .obstruct, .lock, .gap, .silent, .link, .release].filter fun fl =>
                      (b.getLsbD 7 || b.getLsbD (fl.number - 1))
                        && ((s.face f).fault.flags.get fl).isSome).length,
                    if u.summary then 1 else 0]
                  (modFault f (fun _ => u) s)) t)

/-- FACE RESUME (R88, R89): refused with STATE outside HELD and, while the summary stands, with FAULT_PRESENT and
the flags set and unmasked; otherwise the face enters SURVEY with its counts at 0, a held close ended and WARN off
on its way. That the orders of the held close that ends, sent or not, stand is the model's choice
(notes/assumptions/36.md). -/
def Obligations.FaceResumeEntersSurvey : Prop :=
  ∀ (tag fb : Byte) (f : Face) (s : State), faceOfByte fb = some f → Configured s →
    Front ⟨0x1A#8, tag, [fb]⟩ s →
    (s.stateOf f ≠ .held →
        ∃ t, exec (.faceResume tag [fb]) s = .next t ∧ OnlyReplied ⟨0x1A#8, tag, [fb]⟩ .state [] s t)
      ∧ (s.stateOf f = .held → (s.face f).fault.summary = true →
          ∃ t, exec (.faceResume tag [fb]) s = .next t
            ∧ OnlyReplied ⟨0x1A#8, tag, [fb]⟩ .faultPresent
                (be1 ((s.face f).fault.flags.toSet &&& ~~~(s.face f).fault.mask).toNat) s t)
      ∧ (s.stateOf f = .held → (s.face f).fault.summary = false →
          ∃ t, exec (.faceResume tag [fb]) s = .next t
            ∧ Replied ⟨0x1A#8, tag, [fb]⟩ .done [] s t ∧ Leaves f s t
            ∧ t.stateOf f = .survey ∧ (t.face f).seq.closingKind = none
            ∧ (t.face f).seq.warning = false ∧ (t.face f).release.phase = .none
            ∧ (t.face f).bus.dispatch = (s.face f).bus.dispatch ++ [.groupWarn false]
            ∧ (t.face f).bays = (s.face f).bays.map (fun e => { e with surveyPolls := 0 })
            ∧ (t.face f).meas = (s.face f).meas ∧ (t.face f).fault = (s.face f).fault)

/-- EMERGENCY OPEN (R127, R129 to R133): refused with STATE while OUT_OF_SERVICE; with STATION present already it
only answers; in RELEASED it adds STATION; from any other state the face becomes RELEASED with STATION the first
cause, its order, hold, deadlines and closing gone, every CLOSE not yet sent dropped from the dispatch list and from
the waiting slots, RELEASE set, and, on a CURRENT record no evacuation bay of which is isolated, the evacuation set
ordered OPEN. The byte of an absent detail is the
model's reading of section 11.2 (notes/assumptions/22.md), and that the causes follow the detail where STATION was
present already is its choice (notes/assumptions/41.md). -/
def Obligations.EmergencyOpenReleasesTheFace : Prop :=
  ∀ (tag fb : Byte) (f : Face) (s : State), faceOfByte fb = some f → Configured s →
    Front ⟨0x1B#8, tag, [fb]⟩ s →
    (s.stateOf f = .outOfService →
        ∃ t, exec (.emergencyOpen tag [fb]) s = .next t ∧ OnlyReplied ⟨0x1B#8, tag, [fb]⟩ .state [] s t)
      ∧ (s.stateOf f ≠ .outOfService → (s.face f).release.station = true →
          ∃ t, exec (.emergencyOpen tag [fb]) s = .next t
            ∧ OnlyReplied ⟨0x1B#8, tag, [fb]⟩ .done ([1#8] ++ be1 (s.face f).release.causeBits) s t)
      ∧ (s.stateOf f = .released → (s.face f).release.station = false →
          ∃ t, exec (.emergencyOpen tag [fb]) s = .next t
            ∧ Replied ⟨0x1B#8, tag, [fb]⟩ .done ([0xFF#8] ++ be1 (t.face f).release.causeBits) s t
            ∧ Leaves f s t ∧ t.stateOf f = .released ∧ (t.face f).release.station = true
            ∧ (t.face f).release.phase =
                (if (s.face f).release.phase = .recovering then .holding else (s.face f).release.phase)
            ∧ NextEvent ⟨.releaseCause, some f, none, s.time, [5]⟩ s t)
      ∧ (s.stateOf f ≠ .outOfService → s.stateOf f ≠ .released → (s.face f).release.station = false →
          ∃ t, exec (.emergencyOpen tag [fb]) s = .next t
            ∧ Replied ⟨0x1B#8, tag, [fb]⟩ .done ([0xFF#8] ++ be1 (t.face f).release.causeBits) s t
            ∧ Leaves f s t ∧ t.stateOf f = .released ∧ (t.face f).permit = false
            ∧ (t.face f).release.station = true ∧ (t.face f).release.loop = (s.face f).release.loop
            ∧ (t.face f).release.train = (s.face f).release.train
            ∧ (t.face f).release.fire = (s.face f).release.fire
            ∧ (t.face f).release.pulled = (s.face f).release.pulled
            ∧ (t.face f).release.phase = .holding ∧ (t.face f).release.first = some (.station, none)
            ∧ (t.face f).release.entryTime = some s.time ∧ (t.face f).release.resetTime = none
            ∧ (t.face f).seq.slot = none ∧ (t.face f).seq.hold = none ∧ (t.face f).seq.substate = none
            ∧ (t.face f).seq.dwellDeadline = none ∧ (t.face f).seq.openTravel = none
            ∧ (t.face f).seq.closingKind = none ∧ (t.face f).seq.warning = false
            ∧ (t.face f).fault.flags.release.isSome = true
            ∧ (∀ x ∈ (t.face f).bus.gap ++ (t.face f).bus.dispatch,
                x ≠ .groupClose ∧ ∀ n, x ≠ .unicast n .closeLeaf)
            ∧ (∀ e ∈ (t.face f).bays, e.waiting ≠ some .closeLeaf)
            ∧ NextEvent ⟨.releaseEntered, some f, none, s.time, [5, (s.stateOf f).number]⟩ s t
            ∧ (((s.face f).meas.status ≠ .current ∨ (s.face f).meas.front = none) →
                (t.face f).release.evacIssued = false ∧ (t.face f).release.opened = []
                  ∧ (t.face f).berth.doorList = [])
            ∧ ((s.face f).meas.status = .current → (s.face f).meas.front ≠ none →
                (∀ n ∈ (s.face f).meas.evacuation, s.isolatedBay f n = false) →
                (t.face f).release.evacIssued = true
                  ∧ (t.face f).release.opened = (s.face f).meas.evacuation
                  ∧ (t.face f).berth.doorList = (s.face f).meas.evacDoors
                  ∧ ∀ n ∈ (s.face f).meas.evacuation, ∀ e, t.bay f n = some e →
                      e.inFlight = some .openLeaf ∨ e.waiting = some .openLeaf))

/-- RELEASE RESET (R134, R135): refused with STATE outside RELEASED and with CAUSE_PRESENT while a cause other than
STATION is present; otherwise STATION goes and the enable list empties, and the face enters SURVEY with every bay
locked, or else starts the recovery close with its warning. That the orders of a recovery close that this one
replaces stay on the dispatch list is the model's choice (notes/assumptions/36.md). -/
def Obligations.ReleaseResetEndsTheRelease : Prop :=
  ∀ (tag fb : Byte) (f : Face) (s : State), faceOfByte fb = some f → Configured s →
    Front ⟨0x1C#8, tag, [fb]⟩ s →
    (s.stateOf f ≠ .released →
        ∃ t, exec (.releaseReset tag [fb]) s = .next t ∧ OnlyReplied ⟨0x1C#8, tag, [fb]⟩ .state [] s t)
      ∧ (s.stateOf f = .released →
          ((s.face f).release.loop = true ∨ (s.face f).release.pulled ≠ [] ∨ (s.face f).release.train = true
            ∨ (s.face f).release.fire = true) →
          ∃ t, exec (.releaseReset tag [fb]) s = .next t
            ∧ OnlyReplied ⟨0x1C#8, tag, [fb]⟩ .causePresent
                (be1 (s.face f).release.causeBits ++ bayBits (s.face f).release.pulled) s t)
      ∧ (s.stateOf f = .released → (s.face f).release.loop = false → (s.face f).release.pulled = [] →
          (s.face f).release.train = false → (s.face f).release.fire = false →
          ∃ t, exec (.releaseReset tag [fb]) s = .next t ∧ Leaves f s t
            ∧ (t.face f).release.station = false ∧ (t.face f).release.resetTime = some s.time
            ∧ (t.face f).release.evacIssued = false ∧ (t.face f).release.opened = (s.face f).release.opened
            ∧ (t.face f).berth.doorList = []
            ∧ ((∀ e ∈ (s.face f).bays, e.locked = true) →
                Replied ⟨0x1C#8, tag, [fb]⟩ .done [1#8] s t ∧ t.stateOf f = .survey
                  ∧ (t.face f).release.phase = .none
                  ∧ NextEvent ⟨.releaseReset, some f, none, s.time, [1]⟩ s t)
            ∧ ((∃ e ∈ (s.face f).bays, e.locked = false) →
                Replied ⟨0x1C#8, tag, [fb]⟩ .done [2#8] s t ∧ t.stateOf f = .released
                  ∧ (t.face f).release.phase = .recovering
                  ∧ (t.face f).seq.closingKind = some .recovery
                  ∧ (t.face f).seq.endOfWarning = some (s.time + sec (s.params f).warningPeriod)
                  ∧ (t.face f).seq.closing = (s.face f).bays.map (fun e =>
                      ⟨e.num, if e.locked then .locked else .waiting, 0, none, false, false, none⟩)
                  ∧ (t.face f).bus.dispatch = (s.face f).bus.dispatch ++ [.groupWarn true]
                  ∧ NextEvent ⟨.releaseReset, some f, none, s.time, [2]⟩ s t))

/-! ### The Train Link -/

/-- The frames the part reads are those the layouts build (R171, sections 11.3 and 11.4): a beacon of a lawful
motion, a REPORT answer and the two short answers are read back whole; a beacon of any other length, type,
motion or check is discarded with no effect (R20). -/
def Obligations.BuiltAnswersAreReadBack : Prop :=
  (∀ (code flags : Byte) (train : BitVec 16), flags.toNat % 4 = 1 ∨ flags.toNat % 4 = 2 →
      beaconOf (withCheck16 ([0xB1#8, code] ++ be2 train.toNat ++ [flags]))
        = some ⟨code, train, flags.getLsbD 0, flags.getLsbD 2, flags.getLsbD 3, flags.getLsbD 4⟩)
    ∧ (∀ (f : Face) (bs : List Byte) (s : State),
        (bs.length ≠ 7 ∨ bs.head? ≠ some 0xB1#8 ∨ (bs.getD 4 0#8).toNat % 4 = 0 ∨ (bs.getD 4 0#8).toNat % 4 = 3
          ∨ bs ≠ withCheck16 (bs.take 5)) →
        beaconOf bs = none ∧ exec (.beacon f bs) s = .next s)
    ∧ (∀ (n : Nat) (r : Report), n < 256 → r.count < 16 → r.events.length ≤ 4 →
        (∀ v ∈ r.events, v.age < 1024) →
        reportOf n (withCheck8 ([0xD4#8, BitVec.ofNat 8 n] ++ reportBytes r)) = some r)
    ∧ ∀ (n : Nat) (x : Byte), n < 256 → isShortAnswer x n (withCheck8 [x, BitVec.ofNat 8 n]) = true

/-- Good beacons (R20 to R28, R31, R32, R35, R64 to R66, R69, R86, R119, R126, R129). A first beacon at an EMPTY face
gives ARRIVED: the expectation is promoted, the consist selected and the counts cleared, and a train standing already
is measured at once. A beacon like the one before changes the time of the latest beacon and the answer alone.
STATIONARY takes an ARRIVING face to MEASURING; MOVING takes a MEASURING or BERTHED face back to ARRIVING, its berth
consist kept; at an OPENING, OPEN or CLOSING face it is a train movement: with a bay not locked the face leaves for
CLOSING or HELD with a group CLOSE placed, ALIGN set, the enable list empty and no bay granted; in ARRIVING, CLOSED_LOCKED, HELD, RELEASED and SURVEY it makes
a CURRENT record STALE, clears the bays' classes and leaves the state (R61, R85, R88, R89). A link regained after
a reported loss posts LINK_RESTORED, changed doors post TRAIN_DOORS, READY TO OPEN yes opens a BERTHED face with an
order waiting, and EMERGENCY RELEASE releases a face with TRAIN its first cause. That the bits of the answer that
section 11.4 does not name are sent as 0 is the model's choice (notes/assumptions/42.md). -/
def Obligations.BeaconsMoveTheFace : Prop :=
  ∀ (f : Face) (b : Beacon) (bs : List Byte) (s : State), beaconOf bs = some b →
    (s.stateOf f = .empty → b.emergency = false →
        ((s.face f).berth.present = true ∧ (s.face f).berth.vacant = false
          ∨ (s.face f).berth.present = false ∧ (s.face f).berth.lossReported = false) →
        ∀ active, active = (s.face f).berth.staged.orElse (fun _ => (s.face f).berth.active) →
        ∀ consist, consist =
            (if s.usable f b.code.toNat then some (b.code.toNat, Source.train)
              else active.bind fun x =>
                if s.usable f x.code && x.train.all (· == b.train) then some (x.code, .expected) else none) →
        (b.moving = true ∨ consist ≠ none
          ∧ ((s.face f).berth.present = false ∨ (s.face f).berth.latest.any (·.moving) = true)) →
        ∃ t, exec (.beacon f bs) s = .next t ∧ Leaves f s t
          ∧ t.stateOf f = (if b.moving then .arriving else .measuring)
          ∧ (t.face f).seq.slot = (s.face f).seq.slot
          ∧ (t.face f).seq.lastAccepted = none ∧ (t.face f).seq.acceptedIds = [] ∧ (t.face f).seq.grant = []
          ∧ (t.face f).sensing = ⟨none, some s.time⟩
          ∧ (∀ e ∈ (t.face f).bays, ∀ d, e.beams = some d → d.boarded = 0 ∧ d.alighted = 0 ∧ d.discarded = 0)
          ∧ (t.face f).berth.present = true ∧ (t.face f).berth.latest = some b
          ∧ (t.face f).berth.lastGood = some s.time ∧ (t.face f).berth.vacant = false
          ∧ (t.face f).berth.staged = none ∧ (t.face f).berth.active = active
          ∧ (t.face f).berth.consist = consist
          ∧ (b.moving = false → (t.face f).meas.consist = consist.map (·.1)
              ∧ (t.face f).meas.source = consist.map (·.2) ∧ (t.face f).meas.requestTime = some s.time)
          ∧ (t.face f).berth.answer = some (answerBytes b.train b.code [] false (t.face f).permit false)
          ∧ NextEvent ⟨.arrived, some f, none, s.time,
              [b.code.toNat, b.train.toNat, ((consist.map (·.1)).getD 0)]⟩ s t)
      ∧ (s.stateOf f ≠ .empty → (s.face f).berth.present = true → (s.face f).berth.latest = some b →
          (s.stateOf f ≠ .outOfService → (s.face f).release.train = b.emergency) → Composed s →
          exec (.beacon f bs) s = .next
            (modBerth f
              (fun x =>
                { x with
                  lastGood := some s.time
                  answer := some
                    (answerBytes b.train b.code x.doorList
                      (s.stateOf f == .opening || s.stateOf f == .opened) (s.face f).permit
                      (s.stateOf f == .held || s.stateOf f == .released)) })
              s))
      ∧ ((s.stateOf f = .opening ∨ s.stateOf f = .opened ∨ s.stateOf f = .closing) →
          b.moving = true → b.emergency = false →
          (s.face f).berth.present = true → (s.face f).berth.latest.any (fun x => !x.moving) = true →
          (∃ e ∈ (s.face f).bays, e.locked = false) →
          ∃ t, exec (.beacon f bs) s = .next t ∧ Leaves f s t
            ∧ (t.stateOf f = .closing ∧ (t.face f).seq.closingKind = some .motion ∨ t.stateOf f = .held)
            ∧ (t.face f).permit = false ∧ (t.face f).berth.doorList = []
            ∧ (t.face f).fault.flags.align.isSome = true ∧ .groupClose ∈ (t.face f).bus.dispatch
            ∧ (t.face f).seq.hold = none ∧ (t.face f).seq.openTravel = none
            ∧ ((s.face f).meas.status = .current → (t.face f).meas.status = .stale
                ∧ ∀ e ∈ (t.face f).bays, e.cls = none ∧ e.granted = false)
            ∧ NextEvent ⟨.trainMoved, some f, none, s.time, [(s.stateOf f).number]⟩ s t)
      ∧ ((s.stateOf f = .closedLocked ∨ s.stateOf f = .held ∨ s.stateOf f = .released ∨ s.stateOf f = .survey
            ∨ s.stateOf f = .arriving) →
          b.moving = true → (s.face f).berth.latest.any (fun x => !x.moving) = true →
          ∃ t, exec (.beacon f bs) s = .next t ∧ Leaves f s t ∧ (t.face f).berth.latest = some b
            ∧ ((s.face f).meas.status = .current →
                (t.face f).meas = { (s.face f).meas with status := .stale }
                  ∧ (t.face f).bays.length = (s.face f).bays.length
                  ∧ (∀ e ∈ (t.face f).bays, e.cls = none ∧ e.granted = false)
                  ∧ (s.stateOf f = .released → (t.face f).berth.doorList = []))
            ∧ (b.emergency = false ∨ s.stateOf f = .released →
                t.stateOf f = s.stateOf f ∧ (t.face f).fault = (s.face f).fault)
            ∧ (b.emergency = false →
                (t.face f).seq = (s.face f).seq ∧ (t.face f).bus = (s.face f).bus
                  ∧ (t.face f).bays =
                      if (s.face f).meas.status = .current then
                        (s.face f).bays.map (fun e => { e with cls := none, granted := false })
                      else (s.face f).bays))
      ∧ (s.stateOf f = .arriving → b.moving = false → b.emergency = false →
          ((s.face f).berth.present = true ∧ (s.face f).berth.latest.any (·.moving) = true
              ∧ (s.face f).berth.vacant = false
            ∨ (s.face f).berth.present = false) →
          ∀ code src, (s.face f).berth.consist = some (code, src) →
          ∃ t, exec (.beacon f bs) s = .next t ∧ Leaves f s t
            ∧ t.stateOf f = .measuring ∧ (t.face f).seq.slot = (s.face f).seq.slot
            ∧ (t.face f).berth.consist = some (code, src)
            ∧ (t.face f).bays = (s.face f).bays.map (fun e => { e with cls := none, granted := false })
            ∧ (s.serving ≠ some (otherFace f) → t.serving = some f)
            ∧ (s.serving = some (otherFace f) → t.serving = s.serving ∧ t.waitingFor = some f)
            ∧ (t.face f).meas =
                { consist := some code
                  source := some src
                  antenna := (s.store.consists.find? (fun c => c.code = code)).map (·.antenna)
                  mark := ((s.cfg f).stops.find? (fun m => m.code = code)).map (·.mark)
                  tolerance := ((s.cfg f).stops.find? (fun m => m.code = code)).map (·.tolerance)
                  requestTime := some s.time
                  status := if s.serving = some (otherFace f) then .waiting else .sampling
                  startTime := if s.serving = some (otherFace f) then none else some s.time })
      ∧ ((s.stateOf f = .measuring ∨ s.stateOf f = .berthed) → b.moving = true → b.emergency = false →
          ((s.face f).berth.present = true → (s.face f).berth.vacant = false) →
          (s.face f).berth.latest.any (fun x => !x.moving) = true →
          ∃ t, exec (.beacon f bs) s = .next t ∧ Leaves f s t
            ∧ t.stateOf f = .arriving ∧ (t.face f).berth.consist = (s.face f).berth.consist
            ∧ (t.face f).seq.slot = (s.face f).seq.slot ∧ (t.face f).seq.lastAccepted = none
            ∧ (t.face f).seq.acceptedIds = [] ∧ (t.face f).seq.grant = []
            ∧ (t.face f).sensing = ⟨none, some s.time⟩ ∧ (t.face f).berth.staged = none
            ∧ ((s.face f).meas.status = .current → (t.face f).meas.status = .stale)
            ∧ ((s.face f).meas.status = .waiting ∨ (s.face f).meas.status = .sampling →
                ¬(s.serving = some f ∧ s.waitingFor = some f) →
                (t.face f).meas.status = .abandoned ∧ (t.face f).meas.abandon = some .moving
                  ∧ (t.face f).meas.completion = some s.time))
      ∧ ∃ t, exec (.beacon f bs) s = .next t
          ∧ ((s.face f).berth.present = false → (s.face f).berth.lossReported = true →
              (t.face f).berth.present = true ∧ (t.face f).berth.lossReported = false
                ∧ NextEvent ⟨.linkRestored, some f, none, s.time, []⟩ s t)
          ∧ (∀ x, (s.face f).berth.latest = some x → x.doorsClosed ≠ b.doorsClosed →
              Posted ⟨.trainDoors, some f, none, s.time, [if b.doorsClosed then 1 else 0]⟩ t)
          ∧ (∀ id x, s.stateOf f = .berthed → (s.face f).seq.slot = some id →
              (s.face f).berth.present = true → (s.face f).berth.vacant = false →
              (s.face f).berth.latest = some x → x.moving = false → x.ready = false →
              b.moving = false → b.ready = true → b.emergency = false →
              (s.face f).seq.grant ≠ [] → (s.face f).enable.level = true →
              (∀ n ∈ (s.face f).seq.grant, ∀ e, s.bay f n = some e → e.isolated = false) →
              (∃ n ∈ (s.face f).seq.grant, (s.bay f n).any BayEntry.leafOpen = false) →
              t.stateOf f = .opening ∧ (t.face f).seq.slot = none ∧ (t.face f).seq.lastAccepted = some id
                ∧ (t.face f).seq.openTravel = some (s.time + sec (s.params f).openTravel)
                ∧ (t.face f).berth.doorList =
                    (if (s.face f).meas.status = .current then (s.face f).meas.doorList else [])
                ∧ NextEvent ⟨.orderAccepted, some f, none, s.time, [id.toNat]⟩ s t)
          ∧ (∀ x, s.stateOf f ≠ .outOfService → s.stateOf f ≠ .empty → s.stateOf f ≠ .released →
              (s.face f).berth.present = true → (s.face f).berth.latest = some x →
              x.moving = b.moving → x.ready = b.ready → b.emergency = true →
              (s.face f).release.train = false →
              t.stateOf f = .released ∧ (t.face f).release.train = true
                ∧ (t.face f).release.phase = .holding ∧ (t.face f).release.first = some (.train, none)
                ∧ (t.face f).release.entryTime = some s.time ∧ (t.face f).permit = false
                ∧ (t.face f).fault.flags.release.isSome = true
                ∧ NextEvent ⟨.releaseEntered, some f, none, s.time, [3, (s.stateOf f).number]⟩ s t)

/-- The loss of a Train Link (R21, R22, R23, R87): 500 ms after the latest good beacon the link is LOST with the
beacon kept and no train release offered; in the states of R22 the loss is reported, LINK raised, and the face held
where that sets the summary; in the others it passes unreported. With the link LOST already nothing happens. A
waiting order that the loss makes acceptable, LINK being masked, opens the face after the loss is reported (R69,
R70). That a command of a deadline stands for its passing, with the counter at the deadline or past it, is the
model's choice (notes/assumptions/2.md), as are that a command of a deadline not held does nothing
(notes/assumptions/7.md), that a PRESENT link without a time of its latest beacon is not lost
(notes/assumptions/30.md), that LINK_LOST is posted before LINK is raised (notes/assumptions/12.md) and that both come
before the acceptance test (notes/assumptions/15.md). -/
def Obligations.LostLinkIsReported : Prop :=
  ∀ (f : Face) (s : State),
    (((s.face f).berth.present = false ∨ (s.face f).berth.lastGood = none) →
        exec (.linkBecomesLost f) s = .next s)
      ∧ (∀ last u, (s.face f).berth.present = true → (s.face f).berth.lastGood = some last →
          u = advanceTo (last + 500#32) s →
          ((s.face f).seq.slot = none ∨ ¬MayOpen f (modBerth f (fun b => { b with present := false }) u)
            ∨ FlagSet.has (s.face f).fault.mask .link = false ∧ (s.face f).fault.summary = false) →
          ∃ t, exec (.linkBecomesLost f) s = .next t ∧ Leaves f u t
            ∧ (t.face f).berth.present = false ∧ (t.face f).berth.latest = (s.face f).berth.latest
            ∧ (s.stateOf f ≠ .outOfService → (t.face f).release.train = false)
            ∧ ((s.stateOf f = .measuring ∨ s.stateOf f = .berthed ∨ s.stateOf f = .opening
                  ∨ s.stateOf f = .opened ∨ s.stateOf f = .closing ∨ s.stateOf f = .held
                  ∨ s.stateOf f = .released
                  ∨ s.stateOf f = .closedLocked ∧ (s.face f).berth.latest.any (fun b => !b.moving) = true) →
                (t.face f).berth.lossReported = true ∧ (t.face f).fault.flags.link.isSome = true
                  ∧ NextEvent ⟨.linkLost, some f, none, u.time, []⟩ s t
                  ∧ t.stateOf f =
                      if FlagSet.has (s.face f).fault.mask .link = false ∧ (s.face f).fault.summary = false
                          ∧ s.stateOf f ≠ .released then .held
                      else s.stateOf f)
            ∧ ((s.stateOf f = .outOfService ∨ s.stateOf f = .survey ∨ s.stateOf f = .empty
                  ∨ s.stateOf f = .arriving
                  ∨ s.stateOf f = .closedLocked ∧ (s.face f).berth.latest.any (fun b => !b.moving) = false) →
                (t.face f).berth.lossReported = (s.face f).berth.lossReported
                  ∧ (t.face f).fault = (s.face f).fault ∧ t.stateOf f = s.stateOf f))
      ∧ ∀ last u v id, (s.face f).berth.present = true → (s.face f).berth.lastGood = some last →
          u = advanceTo (last + 500#32) s → v = modBerth f (fun b => { b with present := false }) u →
          WouldOpen f id v →
          (FlagSet.has (s.face f).fault.mask .link = true ∨ (s.face f).fault.summary = true) →
          ∃ t, exec (.linkBecomesLost f) s = .next t ∧ Leaves f u t ∧ Opened f id v t
            ∧ (t.face f).berth.present = false ∧ (t.face f).berth.lossReported = true
            ∧ (t.face f).fault.flags.link.isSome = true
            ∧ NextEvent ⟨.linkLost, some f, none, u.time, []⟩ s t

/-- A strength reading (R24, R25, R39, R43, R48 to R51, R58, R65): none is taken OUT_OF_SERVICE; elsewhere it comes
40 ms after the one before and replaces it, with strength 0 for a cell it does not give. While no sample is taken it
starts, keeps or ends the weak time, and 2,000 ms of it with the link LOST make the face vacant: it is EMPTY then,
or from OPENING and OPEN with a bay not locked makes a train movement (R86). While the face is SAMPLING it is one
sample, and the fourth entry of a run, or the sixteenth sample without one, completes the measurement with its F, E,
verdict, classes, sets and lists: the Face Record and the Bay Table follow the record, the face is BERTHED, a
verdict but ON_MARK sets ALIGN, an order that may open the face does, and the unit turns to the face that waits. The
counter's stand, the strengths of cells not given, the order of sample and vacancy, and that a reading at the very
counter of the record's start is a sample, are the model's choices (notes/assumptions/2.md, 19.md, 9.md, 35.md), as
are that the first reading is taken when it comes (notes/assumptions/29.md) and that an absent antenna offset of a
SAMPLING record is read as 0 (notes/assumptions/30.md). -/
def Obligations.StrengthReadingIsTaken : Prop :=
  ∀ (f : Face) (ss r : List Strength) (s u : State),
    (s.stateOf f = .outOfService → exec (.strengthReading f ss) s = .next s)
      ∧ (s.stateOf f ≠ .outOfService →
          u = (match (s.face f).berth.lastReading with | none => s | some x => advanceTo (x + 40#32) s) →
          r = ((List.range (s.cfg f).cells.length).map fun i => ss.getD i 0#10) →
          ((s.face f).meas.status ≠ .sampling → Composed s →
              (∃ x ∈ r, (s.params f).strengthFloor ≤ x.toNat) →
              exec (.strengthReading f ss) s = .next
                (modBerth f
                  (fun b =>
                    { b with reading := r, lastReading := some u.time, weakSince := none, vacant := false })
                  u))
            ∧ ((s.face f).meas.status ≠ .sampling → Composed s →
                (∀ x ∈ r, x.toNat < (s.params f).strengthFloor) →
                ((s.face f).berth.vacant = true ∨ (s.face f).berth.present = true
                  ∨ elapsed u.time ((s.face f).berth.weakSince.getD u.time) < 2000) →
                exec (.strengthReading f ss) s = .next
                  (modBerth f
                    (fun b =>
                      { b with
                        reading := r
                        lastReading := some u.time
                        weakSince := some (b.weakSince.getD u.time) })
                    u))
            ∧ ((s.face f).meas.status ≠ .sampling → (∀ x ∈ r, x.toNat < (s.params f).strengthFloor) →
                (s.face f).berth.vacant = false → (s.face f).berth.present = false →
                2000 ≤ elapsed u.time ((s.face f).berth.weakSince.getD u.time) →
                (s.stateOf f = .arriving ∨ s.stateOf f = .measuring ∨ s.stateOf f = .berthed
                  ∨ s.stateOf f = .closedLocked) →
                (∀ e ∈ (s.face f).bays, e.gapIsActive = false) →
                ∃ t, exec (.strengthReading f ss) s = .next t ∧ Leaves f u t
                  ∧ (t.face f).berth.vacant = true ∧ t.stateOf f = .empty ∧ (t.face f).seq.grant = []
                  ∧ (t.face f).seq.hold = none ∧ (t.face f).berth.consist = none
                  ∧ (t.face f).berth.active = none)
            ∧ ((s.face f).meas.status ≠ .sampling → (∀ x ∈ r, x.toNat < (s.params f).strengthFloor) →
                (s.face f).berth.vacant = false → (s.face f).berth.present = false →
                2000 ≤ elapsed u.time ((s.face f).berth.weakSince.getD u.time) →
                (s.stateOf f = .opening ∨ s.stateOf f = .opened) → (∃ e ∈ (s.face f).bays, e.locked = false) →
                ∃ t, exec (.strengthReading f ss) s = .next t ∧ Leaves f u t
                  ∧ (t.face f).berth.vacant = true ∧ (t.face f).berth.doorList = []
                  ∧ (t.stateOf f = .closing ∧ (t.face f).seq.closingKind = some .motion ∨ t.stateOf f = .held)
                  ∧ (t.face f).fault.flags.align.isSome = true ∧ .groupClose ∈ (t.face f).bus.dispatch
                  ∧ ((s.face f).meas.status = .current → (t.face f).meas.status = .stale
                      ∧ ∀ e ∈ (t.face f).bays, e.cls = none ∧ e.granted = false)
                  ∧ NextEvent ⟨.trainMoved, some f, none, u.time, [(s.stateOf f).number]⟩ s t)
            ∧ ((s.face f).meas.status = .sampling → (s.face f).berth.present = true →
                (s.face f).berth.vacant = false → s.waitingFor ≠ some f →
                ∀ j, j = judge (s.cfg f).cells (s.params f).strengthFloor ((s.face f).meas.antenna.getD 0) r →
                ∃ t, exec (.strengthReading f ss) s = .next t ∧ Leaves f u t
                  ∧ (t.face f).meas.samples = (s.face f).meas.samples + 1
                  ∧ (t.face f).meas.run = runAfter (s.face f).meas.run j
                  ∧ (t.face f).meas.weak = (s.face f).meas.weak + (if j = .weak then 1 else 0)
                  ∧ (t.face f).meas.ghost = (s.face f).meas.ghost + (if j = .ghost then 1 else 0)
                  ∧ (t.face f).meas.range = (s.face f).meas.range + (if j = .range then 1 else 0)
                  ∧ ((runAfter (s.face f).meas.run j).length ≠ 4 → (s.face f).meas.samples + 1 < 16 →
                      (t.face f).meas.status = .sampling ∧ t.stateOf f = s.stateOf f)
                  ∧ ((runAfter (s.face f).meas.run j).length ≠ 4 → 16 ≤ (s.face f).meas.samples + 1 →
                      Completes f 3
                        { (s.face f).meas with
                          front := none
                          error := none
                          verdict := some .indeterminate
                          bayClasses := none
                          doorClasses := none
                          grant := []
                          doorList := []
                          evacuation := []
                          evacDoors := [] }
                        s u t)
                  ∧ ((runAfter (s.face f).meas.run j).length = 4 → ∀ m x,
                      (s.face f).meas.mark = some m → (s.face f).meas.tolerance = some x →
                      ∀ front, front = (runAfter (s.face f).meas.run j).sum / 4 →
                      Completes f (if front + x < m then 1 else if m + x < front then 2 else 0)
                          (withFront (s.cfg f) (s.doorsOf (s.face f).meas) (s.isolatedBay f) front (s.face f).meas)
                          s u t
                        ∧ (t.face f).meas.status = .current ∧ (t.face f).meas.front = some front
                        ∧ (t.face f).meas.error = some ((front : Int) - m)
                        ∧ (t.face f).meas.verdict = some
                            (if front + x < m then .short else if m + x < front then .over else .onMark)
                        ∧ (t.face f).meas.completion = some u.time)))

/-- A sample is judged by R44 to R47. The strongest cell k, the lowest index among equals, below the floor:
WEAK. Some other cell that is not next to k with more than half its strength: GHOST. Otherwise p is the centre
of k plus the offset toward the neighbour that R46 chooses, the product formed whole and the quotient truncated
toward zero; a front p + a beyond 250,000 is RANGE, and any other is the sample's. The front then lies, less a,
between two cell centres of the face. -/
def Obligations.SamplesAreJudgedByTheRules : Prop :=
  ∀ (cells : List Cell) (floor a k : Nat) (ss : List Strength) (at' centre : Nat → Nat),
    2 ≤ cells.length → 1 ≤ floor → k < cells.length →
    (∀ i, at' i = (ss.getD i 0#10).toNat) →
    (∀ i x, cells[i]? = some x → centre i = x.centre) →
    (∀ i, i < cells.length → at' i ≤ at' k) → (∀ i, i < k → at' i < at' k) →
    (at' k < floor → judge cells floor a ss = .weak)
      ∧ (floor ≤ at' k →
          ((∃ i, i < cells.length ∧ i ≠ k ∧ i + 1 ≠ k ∧ i ≠ k + 1 ∧ at' k < 2 * at' i) →
              judge cells floor a ss = .ghost)
            ∧ ((∀ i, i < cells.length → i ≠ k → i + 1 ≠ k → i ≠ k + 1 → 2 * at' i ≤ at' k) →
                ∀ p : Int,
                  (0 < k ∧ k + 1 < cells.length ∧ at' (k - 1) = at' (k + 1) ∧ p = centre k
                    ∨ ∃ j,
                      (k = 0 ∧ j = 1 ∨ k + 1 = cells.length ∧ j + 1 = k
                          ∨ 0 < k ∧ k + 1 < cells.length
                            ∧ (j + 1 = k ∧ at' (k + 1) < at' j ∨ j = k + 1 ∧ at' (k - 1) < at' j))
                        ∧ p = centre k
                            + Int.tdiv (((centre j : Int) - centre k) * at' j) ((at' k : Int) + at' j)) →
                  (250000 < p + a → judge cells floor a ss = .range)
                    ∧ (p + a ≤ 250000 → ∃ front : Nat, judge cells floor a ss = .valid front
                        ∧ (front : Int) = p + a
                        ∧ ∃ x ∈ cells, ∃ y ∈ cells, x.centre + a ≤ front ∧ front ≤ y.centre + a)))

/-- The run, F, the verdict, the classes, the sets and the lists (R48, R49, R51 to R57). An invalid sample
empties the run; a valid one joins it where all its entries then lie within 60 mm of one another, and else
stands alone; F differs by at most 60 mm from each of its four entries. With F present the results are written
as the rules form them: the verdict by E and T, the classes with the lowest number at which each is reached, the
grant set under ON_MARK alone, the evacuation set under any verdict, and the door lists ascending. -/
def Obligations.ClassesAndSetsFollowTheRules : Prop :=
  (∀ (run : List Nat) (x : Nat),
      runAfter run .weak = [] ∧ runAfter run .ghost = [] ∧ runAfter run .range = []
        ∧ ((∀ y ∈ run ++ [x], ∀ z ∈ run ++ [x], y ≤ z + 60) → runAfter run (.valid x) = run ++ [x])
        ∧ (¬(∀ y ∈ run ++ [x], ∀ z ∈ run ++ [x], y ≤ z + 60) → runAfter run (.valid x) = [x])
        ∧ (run.length = 4 → (∀ y ∈ run, ∀ z ∈ run, y ≤ z + 60) →
            ∀ y ∈ run, y ≤ run.sum / 4 + 60 ∧ run.sum / 4 ≤ y + 60))
    ∧ ∀ (cfg : FaceConfig) (doors : List Door) (isolated : Nat → Bool) (front mark tol : Nat) (m r : Measurement),
        m.mark = some mark → m.tolerance = some tol → r = withFront cfg doors isolated front m →
        ∀ (cls : BayGeometry → Door → Cls), cls = classAgainst cfg.params.minimumOverlap front →
        (∀ g d,
            (cls g d = .full ↔ d.offset ≤ front ∧ (g.left : Int) ≤ (front : Int) - d.offset - d.width
                ∧ (front : Int) - d.offset ≤ g.right)
              ∧ (cls g d = .part ↔ cls g d ≠ .full ∧ d.offset ≤ front
                  ∧ (cfg.params.minimumOverlap : Int)
                    ≤ min (g.right : Int) ((front : Int) - d.offset)
                      - max (g.left : Int) ((front : Int) - d.offset - d.width)))
          ∧ r.front = some front ∧ r.error = some ((front : Int) - mark)
          ∧ (r.verdict = some .onMark ↔ mark ≤ front + tol ∧ front ≤ mark + tol)
          ∧ (r.verdict = some .short ↔ front + tol < mark) ∧ (r.verdict = some .over ↔ mark + tol < front)
          ∧ (∃ (bs : List BayClass) (ds : List DoorClass), r.bayClasses = some bs ∧ r.doorClasses = some ds
              ∧ bs.map (·.bay) = cfg.bays.map (·.num) ∧ ds.length = doors.length
              ∧ (∀ (i : Nat) (c : BayClass), bs[i]? = some c → ∃ g, cfg.bays[i]? = some g
                  ∧ (c.cls = .unmet → c.door = none ∧ ∀ d ∈ doors, cls g d = .unmet)
                  ∧ (c.cls ≠ .unmet → ∃ (k : Nat) (d : Door), c.door = some (k + 1) ∧ doors[k]? = some d ∧ cls g d = c.cls
                      ∧ (∀ (j : Nat) (e : Door), j < k → doors[j]? = some e → cls g e ≠ c.cls)
                      ∧ (c.cls = .part → ∀ e ∈ doors, cls g e ≠ .full)))
              ∧ (∀ (i : Nat) (c : DoorClass), ds[i]? = some c → ∃ d, doors[i]? = some d
                  ∧ (c.cls = .unmet → c.bay = none ∧ ∀ g ∈ cfg.bays, cls g d = .unmet)
                  ∧ (c.cls ≠ .unmet → ∃ (k : Nat) (g : BayGeometry), cfg.bays[k]? = some g ∧ c.bay = some g.num ∧ cls g d = c.cls
                      ∧ (∀ (j : Nat) (h : BayGeometry), j < k → cfg.bays[j]? = some h → cls h d ≠ c.cls)
                      ∧ (c.cls = .part → ∀ h ∈ cfg.bays, cls h d ≠ .full)))
              ∧ ∀ n,
                (n ∈ r.grant ↔ r.verdict = some .onMark ∧ isolated n = false
                    ∧ ∃ c ∈ bs, c.bay = n ∧ (c.cls = .full ∨ cfg.params.partAllowance = 1 ∧ c.cls = .part))
                  ∧ (n ∈ r.evacuation ↔ isolated n = false ∧ ∃ c ∈ bs, c.bay = n ∧ c.cls ≠ .unmet)
                  ∧ (n ∈ r.doorList ↔ ∃ (k : Nat) (d : Door) (g : BayGeometry), n = k + 1 ∧ doors[k]? = some d ∧ g ∈ cfg.bays
                      ∧ g.num ∈ r.grant ∧ cls g d ≠ .unmet)
                  ∧ (n ∈ r.evacDoors ↔ ∃ (k : Nat) (d : Door) (g : BayGeometry), n = k + 1 ∧ doors[k]? = some d ∧ g ∈ cfg.bays
                      ∧ g.num ∈ r.evacuation ∧ cls g d ≠ .unmet))
          ∧ r.doorList.Pairwise (· < ·) ∧ r.evacDoors.Pairwise (· < ·)

/-! ### The Bay Bus -/

/-- A turn (R91, R96, R100, R104, R106, R107, section 11.3): while a transaction is outstanding, or with no bay to
poll, nothing happens. With no entry left from the end of the turn before, the master sends what its search and its
counts call for; else the first such entry goes out, unicast or group, as a transaction with its own answer window.
Entries placed since that end stay on the list. That the end of a turn is taken at once when its own transaction
has ended, and the start of polling as such an end, is the model's choice (notes/assumptions/17.md), as is that the
window is counted from the step that sends the frames (notes/assumptions/18.md) and that a turn in the middle of a
transaction does nothing (notes/assumptions/7.md). -/
def Obligations.TurnSendsOneTransaction : Prop :=
  ∀ (f : Face) (s : State),
    (((s.face f).bus.cursor = none ∨ (s.face f).bus.outstanding ≠ none) → exec (.turn f) s = .next s)
      ∧ ∀ n, (s.face f).bus.cursor = some n → n < 32 → (s.face f).bus.outstanding = none →
          ((s.face f).bus.gap = [] →
              ((s.face f).bus.search = .idle → (s.face f).bus.queryNext = false → (s.face f).bus.polls < 8 →
                  exec (.turn f) s = .next
                    (modBus f
                      (fun b =>
                        { b with
                          turning := false
                          out := b.out ++ [withCheck8 [0xC1#8, BitVec.ofNat 8 n], withCheck8 [0xC2#8, 4#8]]
                          outstanding := some
                            ⟨.poll n (decide (s.stateOf f = .survey)), false, s.time + 3#32⟩ })
                      s))
                ∧ ((s.face f).bus.search = .idle →
                    ((s.face f).bus.queryNext = true ∨ 8 ≤ (s.face f).bus.polls) →
                    exec (.turn f) s = .next
                      (modBus f
                        (fun b =>
                          { b with
                            turning := false
                            polls := 0
                            queryNext := false
                            out := b.out ++ [withCheck8 [0xC1#8, 0xA0#8], withCheck8 [0xC2#8, 5#8]]
                            outstanding := some ⟨.query 5 0, false, s.time + 3#32⟩ })
                        s))
                ∧ (∀ base mask, (s.face f).bus.search = .lower base mask →
                    exec (.turn f) s = .next
                      (modBus f
                        (fun b =>
                          { b with
                            turning := false
                            out := b.out ++
                              [withCheck8 [0xC1#8, BitVec.ofNat 8 (base % 32 + 32 * mask)],
                                withCheck8 [0xC2#8, 5#8]]
                            outstanding := some ⟨.query mask base, false, s.time + 3#32⟩ })
                        s))
                ∧ (∀ base mask, (s.face f).bus.search = .upper base mask →
                    exec (.turn f) s = .next
                      (modBus f
                        (fun b =>
                          { b with
                            turning := false
                            out := b.out ++
                              [withCheck8 [0xC1#8, BitVec.ofNat 8 ((base + 2 ^ mask) % 32 + 32 * mask)],
                                withCheck8 [0xC2#8, 5#8]]
                            outstanding := some ⟨.query mask (base + 2 ^ mask), false, s.time + 3#32⟩ })
                        s))
                ∧ ∀ a, (s.face f).bus.search = .hit a → a < 32 →
                    exec (.turn f) s = .next
                      (modBus f
                        (fun b =>
                          { b with
                            turning := false
                            out := b.out ++ [withCheck8 [0xC1#8, BitVec.ofNat 8 a], withCheck8 [0xC2#8, 4#8]]
                            outstanding := some ⟨.hit a, false, s.time + 3#32⟩ })
                        s))
            ∧ ∀ x rest, (s.face f).bus.gap = x :: rest →
                exec (.turn f) s = .next
                  (modBus f
                    (fun b =>
                      { b with
                        gap := rest
                        turning := true
                        out := b.out ++ entryFrames x
                        outstanding := some ⟨entryKind x, false, s.time + 3#32⟩ })
                    s)

/-- A REPORT answer (R91, R98, R99, R103 to R105, R107): one that answers no outstanding poll, follow-up or hit, or
that begins after its window, has no effect; one from a configured bay is delivered. It is kept with its receipt
time, the miss count returns to 0, a SILENT bay is cleared with BAY_ANSWERING, and the busy hold is released, its
waiting order moving up onto the list. A poll moves the cursor to the next configured bay and adds to the polls
since query and to the SURVEY's count; a hit ends its search, with a query due where it drew attention, from an
address with no bay too; and the entries waiting are those of the next gap. A handle first seen pulled releases the
face (R125, R129); a lock not proven raises LOCK in the states that watch the locks (R63, R143); the last granted
bay open enters OPEN (R73); an obstacle counts a retry and pauses its bay (R83); the last bay locked ends the
closing in CLOSED_LOCKED (R85); and the third poll of the last bay makes the SURVEY decision, row by row (R89, R90).
The premises on the gap and the handle leave out what those fields do besides, and BayDeadlinesMoveTheirBay states
the rest of what a report does in a closing. That an answer to nothing outstanding has no effect is the model's
choice (notes/assumptions/7.md), as are the window's exact end (notes/assumptions/18.md), delivery before the poll's
completion (notes/assumptions/33.md), that a report of a proven lock has its bay LOCKED with no retry, whatever
obstacle it shows (notes/assumptions/32.md), and that the turn ends in the same step (notes/assumptions/17.md). -/
def Obligations.AnsweredReportIsKept : Prop :=
  ∀ (f : Face) (bs : List Byte) (s : State),
    ((s.face f).bus.outstanding = none → exec (.reportAnswer f bs) s = .next s)
      ∧ ∀ tr, (s.face f).bus.outstanding = some tr →
        (¬InWindow tr s → exec (.reportAnswer f bs) s = .next s)
          ∧ ((∀ n, tr.kind.reportFrom = some n → reportOf n bs = none) → exec (.reportAnswer f bs) s = .next s)
          ∧ (∀ n r, tr.kind = .hit n → reportOf n bs = some r → s.bay f n = none → InWindow tr s →
              (s.face f).bus.turning = false → Composed s →
              exec (.reportAnswer f bs) s = .next
                (modBus f
                  (fun b =>
                    { b with
                      search := .idle
                      queryNext := r.attention
                      outstanding := none
                      gap := b.gap ++ b.dispatch
                      dispatch := [] })
                  s))
          ∧ ∀ n r e, tr.kind.reportFrom = some n → reportOf n bs = some r → s.bay f n = some e → InWindow tr s →
              ∃ t e', exec (.reportAnswer f bs) s = .next t ∧ Leaves f s t ∧ t.bay f n = some e'
                ∧ e'.report = some (r, s.time) ∧ e'.miss = 0 ∧ e'.silent = false
                ∧ e'.isolated = e.isolated ∧ e'.busyHold = false
                ∧ ((s.face f).bus.turning = false →
                    (t.face f).bus.turning = false ∧ (t.face f).bus.outstanding = none
                      ∧ (t.face f).bus.dispatch = []
                      ∧ ((∃ sv, tr.kind = .poll n sv) →
                          (t.face f).bus.cursor = polledAfter n (s.face f).bays
                            ∧ (t.face f).bus.polls = (s.face f).bus.polls + 1
                            ∧ (t.face f).bus.search = (s.face f).bus.search
                            ∧ (t.face f).bus.queryNext = (s.face f).bus.queryNext)
                      ∧ (tr.kind = .hit n →
                          (t.face f).bus.search = .idle ∧ (t.face f).bus.queryNext = r.attention
                            ∧ (t.face f).bus.cursor = (s.face f).bus.cursor
                            ∧ (t.face f).bus.polls = (s.face f).bus.polls))
                ∧ ((s.face f).seq.closingKind = none → (r.pulled = true ↔ n ∈ (s.face f).release.pulled) →
                    e'.surveyPolls =
                      if s.stateOf f = .survey ∧ tr.kind = .poll n true then e.surveyPolls + 1 else e.surveyPolls)
                ∧ ((s.face f).seq.closingKind = none → (r.pulled = true ↔ n ∈ (s.face f).release.pulled) →
                    GapSteady r e → r.lock = true → s.stateOf f ≠ .opening → s.stateOf f ≠ .survey →
                    e'.inFlight = (if e.busyHold = true ∧ e.waiting.isSome = true then e.waiting else e.inFlight)
                      ∧ e'.waiting = (if e.busyHold then none else e.waiting)
                      ∧ ∀ b, b =
                          { (s.face f).bus with
                            outstanding := none
                            dispatch := (s.face f).bus.dispatch ++
                              (match e.busyHold, e.waiting with | true, some o => [.unicast n o] | _, _ => []) } →
                        (tr.kind = .followUp n → (s.face f).bus.turning = true →
                            GoesOn s.time false b (t.face f).bus)
                          ∧ ((s.face f).bus.turning = false →
                              (t.face f).bus =
                                { b with
                                  cursor :=
                                    match tr.kind with | .poll _ _ => polledAfter n (s.face f).bays | _ => b.cursor
                                  polls := match tr.kind with | .poll _ _ => b.polls + 1 | _ => b.polls
                                  search := match tr.kind with | .hit _ => .idle | _ => b.search
                                  queryNext := match tr.kind with | .hit _ => r.attention | _ => b.queryNext
                                  gap := b.gap ++ b.dispatch
                                  dispatch := [] }))
                ∧ (e.silent = true → NextEvent ⟨.bayAnswering, some f, some n, s.time, [e.miss]⟩ s t)
                ∧ (r.pulled = true → n ∉ (s.face f).release.pulled → s.stateOf f ≠ .outOfService →
                    s.stateOf f ≠ .released →
                    t.stateOf f = .released ∧ (t.face f).release.phase = .holding
                      ∧ (t.face f).release.first = some (.handle, some n)
                      ∧ (t.face f).release.entryTime = some s.time
                      ∧ (∀ m, m ∈ (t.face f).release.pulled ↔ m = n ∨ m ∈ (s.face f).release.pulled)
                      ∧ (t.face f).seq.slot = none ∧ (t.face f).seq.closingKind = none
                      ∧ (t.face f).berth.doorList = [] ∧ (t.face f).permit = false
                      ∧ (t.face f).fault.flags.release.isSome = true
                      ∧ (e.silent = false →
                          NextEvent
                            ⟨.releaseEntered, some f, some n, s.time, [2, (s.stateOf f).number]⟩ s t))
                ∧ ((r.pulled = true ↔ n ∈ (s.face f).release.pulled) → e.gap = none →
                    ((s.stateOf f = .empty ∨ s.stateOf f = .arriving ∨ s.stateOf f = .measuring
                          ∨ s.stateOf f = .berthed ∨ s.stateOf f = .closedLocked) →
                        (s.face f).seq.closingKind = none → r.lock = false →
                        (t.face f).fault.flags.lock.isSome = true ∧ (t.face f).permit = false
                          ∧ t.stateOf f =
                              if FlagSet.has (s.face f).fault.mask .lock = false
                                  ∧ (s.face f).fault.summary = false
                              then .held else s.stateOf f)
                      ∧ (∀ d, s.stateOf f = .opening → (s.face f).seq.closingKind = none →
                          (s.face f).berth.vacant = false → (s.face f).seq.dwell = some d → r.leaf = .opened →
                          (∀ m ∈ (s.face f).seq.grant, m ≠ n → m ∈ (s.face f).seq.failed
                            ∨ (s.bay f m).any BayEntry.leafOpen = true) →
                          t.stateOf f = .opened ∧ (t.face f).seq.substate = some .dwell
                            ∧ (t.face f).seq.openTravel = none ∧ (t.face f).seq.extensions = 0
                            ∧ (t.face f).seq.openSince = some s.time
                            ∧ (t.face f).seq.dwellDeadline = some (s.time + sec d.base)
                            ∧ ∀ h, (s.face f).seq.hold = some h →
                                (t.face f).seq.hold = some { h with countingStart := some s.time })
                      ∧ (∀ x, (s.face f).seq.closingKind.isSome = true → s.entry f n = some x → x.phase = .sent →
                          (s.stateOf f = .closing ∨ s.stateOf f = .held ∨ s.stateOf f = .released) →
                          r.lock = false → r.obstacle = true → x.retries < (s.params f).closeRetries →
                          t.stateOf f = s.stateOf f
                            ∧ t.entry f n = some
                                { x with
                                  phase := .pause
                                  retries := x.retries + 1
                                  deadline := some (s.time + sec (s.params f).reopenPause)
                                  proving := false
                                  travel := none })
                      ∧ (∀ most,
                          ((s.face f).seq.closingKind = some .normal ∨ (s.face f).seq.closingKind = some .motion) →
                          s.stateOf f = .closing → (s.face f).berth.vacant = false →
                          (∀ b ∈ (s.face f).bays, b.gapIsActive = false) → r.lock = true →
                          (∃ y ∈ (s.face f).seq.closing, y.bay = n) →
                          (∀ y ∈ (s.face f).seq.closing,
                            (y.bay = n → y.phase ≠ .left) ∧ (y.bay ≠ n → y.phase = .locked)) →
                          (∀ y ∈ (s.face f).seq.closing, y.retries ≤ most) →
                          (∃ y ∈ (s.face f).seq.closing, y.retries = most) →
                          t.stateOf f = .closedLocked ∧ (t.face f).seq.closingKind = none
                            ∧ (t.face f).seq.endOfWarning = none ∧ (t.face f).seq.doorway = none
                            ∧ (e.silent = false →
                                NextEvent ⟨.closedLocked, some f, none, s.time, [most]⟩ s t))
                      ∧ (s.stateOf f = .survey → tr.kind = .poll n true → (s.face f).seq.closingKind = none →
                          (∀ b ∈ (s.face f).bays, if b.num = n then 2 ≤ b.surveyPolls else 3 ≤ b.surveyPolls) →
                          ((r.lock = false ∨ ∃ b ∈ (s.face f).bays, b.num ≠ n ∧ b.locked = false) →
                              FlagSet.has (s.face f).fault.mask .lock = false →
                              t.stateOf f = .held ∧ (t.face f).fault.flags.lock.isSome = true
                                ∧ Posted ⟨.surveyDone, some f, none, s.time, [1]⟩ t)
                            ∧ ((∃ b ∈ (s.face f).bays, b.num ≠ n ∧ b.silent = true) →
                                FlagSet.has (s.face f).fault.mask .lock = true →
                                FlagSet.has (s.face f).fault.mask .silent = false →
                                t.stateOf f = .held ∧ (t.face f).fault.flags.lock.isSome = true
                                  ∧ (t.face f).fault.flags.silent.isSome = true
                                  ∧ Posted ⟨.surveyDone, some f, none, s.time, [2]⟩ t)
                            ∧ (r.lock = true → (∀ b ∈ (s.face f).bays, b.num ≠ n → b.locked = true) →
                                ((s.face f).fault.summary = true →
                                    t.stateOf f = .held ∧ (t.face f).fault.flags = (s.face f).fault.flags
                                      ∧ Posted ⟨.surveyDone, some f, none, s.time, [3]⟩ t)
                                  ∧ ((s.face f).fault.summary = false →
                                      (∀ b, (s.face f).berth.present = true →
                                          (s.face f).berth.vacant = false → (s.face f).berth.latest = some b →
                                          b.moving = false → s.usable f b.code.toNat = true →
                                          t.stateOf f = .measuring
                                            ∧ (t.face f).berth.consist = some (b.code.toNat, .train)
                                            ∧ (t.face f).berth.active = (s.face f).berth.active
                                            ∧ (t.face f).meas.consist = some b.code.toNat
                                            ∧ (t.face f).meas.requestTime = some s.time
                                            ∧ Posted ⟨.surveyDone, some f, none, s.time, [4]⟩ t)
                                        ∧ (∀ b, (s.face f).berth.present = true →
                                            (s.face f).berth.vacant = false → (s.face f).berth.latest = some b →
                                            b.moving = true →
                                            t.stateOf f = .arriving ∧ (t.face f).seq.lastAccepted = none
                                              ∧ (t.face f).seq.acceptedIds = []
                                              ∧ (t.face f).sensing = ⟨none, some s.time⟩
                                              ∧ (t.face f).berth.staged = none
                                              ∧ Posted ⟨.surveyDone, some f, none, s.time, [5]⟩ t)
                                        ∧ (((s.face f).berth.present = false ∨ (s.face f).berth.latest = none) →
                                            (∀ b ∈ (s.face f).bays, b.gapIsActive = false) →
                                            t.stateOf f = .empty ∧ (t.face f).seq.grant = []
                                              ∧ (t.face f).berth.consist = none
                                              ∧ (t.face f).berth.active = none
                                              ∧ Posted ⟨.surveyDone, some f, none, s.time, [6]⟩ t)))))

/-- ACK and BUSY to an order (R91, R96 to R99, R103, R133): ACK empties the in-flight slot and moves a waiting order
up; BUSY takes the order back into an empty waiting slot, but for a CLOSE in HOLDING, holds the bay busy and
places one follow-up REPORT; then the turn, which has begun while an order is outstanding, goes on with its next
entry or its poll. Anything else in their place, and an answer that begins after the window, has no effect. The
premise on the closing kind leaves out a bay that the answer shows locked. That an answer to nothing outstanding has
no effect is the model's choice (notes/assumptions/7.md), as are the window's exact end (notes/assumptions/18.md) and
that the turn goes on in the same step (notes/assumptions/17.md). -/
def Obligations.OrderAnswersActOnTheSlots : Prop :=
  ∀ (f : Face) (bs : List Byte) (s : State),
    ((∀ n o rep w, (s.face f).bus.outstanding ≠ some ⟨.order n o, rep, w⟩) →
        exec (.ack f bs) s = .next s ∧ exec (.busy f bs) s = .next s)
      ∧ ∀ n o rep w, (s.face f).bus.outstanding = some ⟨.order n o, rep, w⟩ → n < 32 →
          (¬InWindow ⟨.order n o, rep, w⟩ s → exec (.ack f bs) s = .next s ∧ exec (.busy f bs) s = .next s)
            ∧ (bs ≠ withCheck8 [0xD1#8, BitVec.ofNat 8 n] → exec (.ack f bs) s = .next s)
            ∧ (bs ≠ withCheck8 [0xD2#8, BitVec.ofNat 8 n] → exec (.busy f bs) s = .next s)
            ∧ ∀ e, s.bay f n = some e → InWindow ⟨.order n o, rep, w⟩ s → (s.face f).bus.turning = true →
                ((s.face f).seq.closingKind = none ∨ e.report.any (fun x => x.1.lock) = false) →
                (bs = withCheck8 [0xD1#8, BitVec.ofNat 8 n] →
                    ∃ t, exec (.ack f bs) s = .next t ∧ Leaves f s t
                      ∧ t.bay f n = some
                          { e with miss := 0, silent := false, inFlight := e.waiting, waiting := none }
                      ∧ GoesOn s.time (decide (s.stateOf f = .survey))
                          { (s.face f).bus with
                            outstanding := none
                            dispatch := (s.face f).bus.dispatch ++
                              (match e.waiting with | none => [] | some x => [.unicast n x]) }
                          (t.face f).bus
                      ∧ (e.silent = true → NextEvent ⟨.bayAnswering, some f, some n, s.time, [e.miss]⟩ s t))
                  ∧ (bs = withCheck8 [0xD2#8, BitVec.ofNat 8 n] →
                      ∃ t, exec (.busy f bs) s = .next t ∧ Leaves f s t
                        ∧ t.bay f n = some
                            { e with
                              miss := 0
                              silent := false
                              inFlight := none
                              busyHold := true
                              waiting :=
                                if e.waiting = none ∧ ¬(o = .closeLeaf ∧ (s.face f).release.phase = .holding)
                                then some o else e.waiting }
                        ∧ GoesOn s.time (decide (s.stateOf f = .survey))
                            { (s.face f).bus with
                              outstanding := none
                              dispatch := (s.face f).bus.dispatch ++
                                (if .followUp n ∈ (s.face f).bus.gap ++ (s.face f).bus.dispatch then []
                                  else [.followUp n]) }
                            (t.face f).bus
                        ∧ (e.silent = true → NextEvent ⟨.bayAnswering, some f, some n, s.time, [e.miss]⟩ s t))

/-- A window that closes unanswered (R89, R91, R96, R100 to R102, R104, R107, R133): a unicast transaction is
repeated once, but for a CLOSE in HOLDING, which is dropped; a second miss counts, and the third count of misses
marks the bay SILENT and raises SILENT. An order missed twice is dropped and the waiting one moves up unless the bay
is held busy; a poll is complete, the cursor moves on and it counts toward SURVEY, whose decision the last such poll
makes; a follow-up is spent; a hit ends the search with no query due, from an address with no bay too. A group
order's transaction ends with its window, which awaits no answer, and the turn goes on. That a command of a deadline
stands for its passing, with the counter at the deadline or past it, is the model's choice (notes/assumptions/2.md),
as are that a command of a deadline not held does nothing (notes/assumptions/7.md), when the window of a group order
opens and closes (notes/assumptions/18.md), that BAY_SILENT is posted before SILENT is raised
(notes/assumptions/12.md) and that the turn goes on or ends in the same step (notes/assumptions/17.md). -/
def Obligations.MissesAreCounted : Prop :=
  ∀ (f : Face) (s : State),
    ((s.face f).bus.outstanding = none → exec (.answerWindowClosed f) s = .next s)
      ∧ ∀ tr u, (s.face f).bus.outstanding = some tr → u = advanceTo tr.windowEnd s →
        ((∃ mask base, tr.kind = .query mask base) → exec (.answerWindowClosed f) s = .next s)
          ∧ ((∃ n o, tr.kind = .order n o) ∨ tr.kind.reportFrom.isSome = true → tr.repeated = false →
              ¬((∃ n, tr.kind = .order n .closeLeaf) ∧ (s.face f).release.phase = .holding) →
              exec (.answerWindowClosed f) s = .next
                (modBus f
                  (fun b =>
                    { b with
                      out := b.out ++ transactionFrames tr.kind.frames.1 tr.kind.frames.2.1 tr.kind.frames.2.2 none
                      outstanding := some ⟨tr.kind, true, u.time + 3#32⟩ })
                  u))
          ∧ (tr.kind = .groupClose ∨ (∃ on, tr.kind = .groupWarn on) → (s.face f).bus.turning = true →
              Composed s →
              ∃ c, exec (.answerWindowClosed f) s = .next (modBus f (fun _ => c) u)
                ∧ GoesOn u.time (decide (s.stateOf f = .survey)) { (s.face f).bus with outstanding := none } c)
          ∧ (∀ n e, tr.kind = .order n .closeLeaf → (s.face f).release.phase = .holding → tr.repeated = false →
              s.bay f n = some e →
              ∃ t, exec (.answerWindowClosed f) s = .next t ∧ Leaves f u t
                ∧ t.bay f n = some
                    (if e.busyHold then { e with inFlight := none }
                      else { e with inFlight := e.waiting, waiting := none })
                ∧ ((s.face f).bus.turning = true →
                    GoesOn u.time (decide (s.stateOf f = .survey))
                      { (s.face f).bus with
                        outstanding := none
                        dispatch := (s.face f).bus.dispatch ++
                          (match e.busyHold, e.waiting with | false, some x => [.unicast n x] | _, _ => []) }
                      (t.face f).bus))
          ∧ (∀ n, tr.kind = .hit n → tr.repeated = true → s.bay f n = none → (s.face f).bus.turning = false →
              Composed s →
              exec (.answerWindowClosed f) s = .next
                (modBus f
                  (fun b =>
                    { b with
                      search := .idle
                      queryNext := false
                      outstanding := none
                      gap := b.gap ++ b.dispatch
                      dispatch := [] })
                  u))
          ∧ (∀ n e, tr.kind = .poll n true → tr.repeated = true → s.bay f n = some e → s.stateOf f = .survey →
              (∀ b ∈ (s.face f).bays, if b.num = n then 2 ≤ b.surveyPolls else 3 ≤ b.surveyPolls) →
              ∃ t row, exec (.answerWindowClosed f) s = .next t ∧ Leaves f u t ∧ t.stateOf f ≠ .survey
                ∧ Posted ⟨.surveyDone, some f, none, u.time, [row]⟩ t
                ∧ ((e.silent = true ∨ 2 ≤ e.miss ∨ ∃ b ∈ (s.face f).bays, b.locked = false) →
                    FlagSet.has (s.face f).fault.mask .lock = false → row = 1 ∧ t.stateOf f = .held)
                ∧ ((s.face f).bus.turning = false →
                    (t.face f).bus.cursor = polledAfter n (s.face f).bays
                      ∧ (t.face f).bus.polls = (s.face f).bus.polls + 1))
          ∧ ∀ n e, (tr.kind = .followUp n ∨ (∃ sv, tr.kind = .poll n sv) ∨ tr.kind = .hit n
                ∨ ∃ o, tr.kind = .order n o) → tr.repeated = true → s.bay f n = some e →
              (tr.kind = .poll n true → s.stateOf f = .survey →
                e.surveyPolls < 2 ∨ ∃ b ∈ (s.face f).bays, b.num ≠ n ∧ b.surveyPolls < 3) →
              ∃ t e', exec (.answerWindowClosed f) s = .next t ∧ Leaves f u t ∧ t.bay f n = some e'
                ∧ e'.miss = min 255 (e.miss + 1) ∧ e'.report = e.report
                ∧ e'.silent = (e.silent || decide (3 ≤ e.miss + 1)) ∧ e'.busyHold = e.busyHold
                ∧ ((∃ o, tr.kind = .order n o) →
                    e'.inFlight = (if e.busyHold then none else e.waiting)
                      ∧ e'.waiting = if e.busyHold then e.waiting else none)
                ∧ (tr.kind.reportFrom.isSome = true → e'.inFlight = e.inFlight ∧ e'.waiting = e.waiting)
                ∧ e'.surveyPolls =
                    (if s.stateOf f = .survey ∧ tr.kind = .poll n true then e.surveyPolls + 1 else e.surveyPolls)
                ∧ (s.stateOf f = .survey → t.stateOf f = .survey)
                ∧ ((s.face f).bus.turning = false →
                    (t.face f).bus.outstanding = none ∧ (t.face f).bus.dispatch = []
                      ∧ ((∃ sv, tr.kind = .poll n sv) →
                          (t.face f).bus.cursor = polledAfter n (s.face f).bays
                            ∧ (t.face f).bus.polls = (s.face f).bus.polls + 1
                            ∧ (t.face f).bus.search = (s.face f).bus.search
                            ∧ (t.face f).bus.queryNext = (s.face f).bus.queryNext)
                      ∧ (tr.kind = .hit n →
                          (t.face f).bus.search = .idle ∧ (t.face f).bus.queryNext = false
                            ∧ (t.face f).bus.cursor = (s.face f).bus.cursor
                            ∧ (t.face f).bus.polls = (s.face f).bus.polls)
                      ∧ (e.silent = false → e.miss + 1 < 3 → tr.kind.reportFrom.isSome = true →
                          (t.face f).bus.gap = (s.face f).bus.gap ++ (s.face f).bus.dispatch))
                ∧ ((s.face f).bus.turning = true → e.silent = false → e.miss + 1 < 3 →
                    (tr.kind = .followUp n ∨ ∃ o, tr.kind = .order n o) →
                    GoesOn u.time (decide (s.stateOf f = .survey))
                      { (s.face f).bus with
                        outstanding := none
                        dispatch := (s.face f).bus.dispatch ++
                          (match tr.kind, e.busyHold, e.waiting with
                            | .order _ _, false, some x => [.unicast n x]
                            | _, _, _ => []) }
                      (t.face f).bus)
                ∧ (e.silent = false → 3 ≤ e.miss + 1 →
                    NextEvent ⟨.baySilent, some f, some n, u.time, []⟩ s t
                      ∧ (s.stateOf f ≠ .outOfService → (t.face f).fault.flags.silent.isSome = true))

/-- The attention search (R92, R96, R106, R108): each answer to a query takes the search a half further or abandons
it and ends the turn, an answer that no query awaits has no effect, and queries answered truly for any set of
attending addresses find the lowest of them within eleven queries. That the bit read stands for the window's end,
with the counter at it or past it, is the model's choice (notes/assumptions/2.md), as is that an answer no query
awaits has no effect (notes/assumptions/7.md), and that the entries placed by then are at once those of the next gap
is its reading of R96 (notes/assumptions/17.md). -/
def Obligations.SearchFindsTheLowestAddress : Prop :=
  (∀ (f : Face) (pulled : Bool) (s : State),
      ((∀ mask base rep w, (s.face f).bus.outstanding ≠ some ⟨.query mask base, rep, w⟩) →
          exec (.attentionQueryAnswer f pulled) s = .next s)
        ∧ ∀ mask base rep w u, (s.face f).bus.outstanding = some ⟨.query mask base, rep, w⟩ →
            u = advanceTo w s → (s.face f).bus.turning = false → Composed s →
            ∀ search,
              (search =
                match (s.face f).bus.search with
                | .idle => if pulled then .lower 0 4 else .idle
                | .lower b 0 => if pulled then .hit b else .upper b 0
                | .lower b (m + 1) => if pulled then .lower b m else .upper b (m + 1)
                | .upper b 0 => if pulled then .hit (b + 1) else .idle
                | .upper b (m + 1) => if pulled then .lower (b + 2 ^ (m + 1)) m else .idle
                | .hit a => .hit a) →
              exec (.attentionQueryAnswer f pulled) s
                = .next
                  (modBus f
                    (fun b =>
                      { b with
                        search := search
                        outstanding := none
                        gap := b.gap ++ b.dispatch
                        dispatch := [] })
                    u))
    ∧ ∀ (attends : Nat → Bool) (low : Nat), low < 32 → attends low = true → (∀ a, a < low → attends a = false) →
        ∀ answer : Search → Bool,
          (∀ x, answer x =
            match x with
            | .idle => (List.range 32).any attends
            | .lower b m => (List.range (2 ^ m)).any fun i => attends (b + i)
            | .upper b m => (List.range (2 ^ m)).any fun i => attends (b + 2 ^ m + i)
            | .hit _ => true) →
          ((fun x => searchAfter x (answer x))^[11]) .idle = .hit low

/-! ### Lines and deadlines -/

/-- The line inputs and their filters (R124, R126, R129, R151, R152): a raw level that differs from the filtered one
starts or keeps the candidate time, one that agrees ends it; 20 ms after it the level is accepted and offered.
ENABLE withdrawn in OPENING or OPEN posts ENABLE_LOST; asserted, it opens a face whose waiting order is acceptable
then (R69, R70). A loop read open and an active FIRE release a face in service; the return of either ends its cause,
LOOP only with no enrolled handle pulled. That a command of a deadline stands for its passing, with the counter at
the deadline or past it, is the model's choice (notes/assumptions/2.md), as is that a command of a deadline not held
does nothing (notes/assumptions/7.md). -/
def Obligations.LinesAreFiltered : Prop :=
  (∀ (l : Line) (level : Bool) (s : State),
      exec (.lineInputChange l level) s = .next
        (setLine l
          { s.line l with
            raw := level
            since := if level = (s.line l).level then none else some ((s.line l).since.getD s.time) }
          s))
    ∧ ∀ (l : Line) (s : State),
        ((s.line l).since = none → exec (.lineFilterExpiry l) s = .next s)
          ∧ ∀ c u, (s.line l).since = some c → u = advanceTo (c + 20#32) s →
            (∀ f v, l = .enable f → v = setLine l ⟨(s.line l).raw, (s.line l).raw, none⟩ u →
                (((s.face f).seq.slot = none ∨ ¬MayOpen f v) → Composed s →
                    exec (.lineFilterExpiry l) s = .next
                      (if (s.line l).raw = false ∧ (s.stateOf f = .opening ∨ s.stateOf f = .opened) then
                        post .enableLost (some f) none [(s.stateOf f).number] v
                      else v))
                  ∧ ∀ id, WouldOpen f id v →
                      ∃ t, exec (.lineFilterExpiry l) s = .next t ∧ Opened f id v t
                        ∧ (t.face f).enable = ⟨true, true, none⟩ ∧ t.fire = s.fire ∧ t.store = s.store)
              ∧ (∀ f, l = .loop f →
                  ∃ t, exec (.lineFilterExpiry l) s = .next t
                    ∧ (t.face f).loop = ⟨(s.line l).raw, (s.line l).raw, none⟩
                    ∧ (t.face f).enable = (s.face f).enable ∧ t.fire = s.fire ∧ t.store = s.store
                    ∧ (s.stateOf f = .outOfService → t.stateOf f = .outOfService)
                    ∧ (t.loopClosed f = false → s.stateOf f ≠ .outOfService → s.stateOf f ≠ .released →
                        (s.face f).release.loop = false →
                        t.stateOf f = .released ∧ (t.face f).permit = false
                          ∧ (t.face f).release.loop = true ∧ (t.face f).release.phase = .holding
                          ∧ (t.face f).release.first = some (.loop, none))
                    ∧ (t.loopClosed f = false → s.stateOf f = .released →
                        t.stateOf f = .released ∧ (t.face f).release.loop = true)
                    ∧ (t.loopClosed f = true → s.stateOf f ≠ .outOfService →
                        t.stateOf f = s.stateOf f
                          ∧ (t.face f).release.loop =
                              ((s.face f).release.loop
                                && (s.face f).release.pulled.any (fun n =>
                                  (s.cfg f).bays.any fun g => g.num == n && g.enrolled))))
              ∧ (l = .fire →
                  ∃ t, exec (.lineFilterExpiry l) s = .next t
                    ∧ t.fire = ⟨s.fire.raw, s.fire.raw, none⟩ ∧ t.store = s.store
                    ∧ ∀ f,
                      (t.face f).enable = (s.face f).enable ∧ (t.face f).loop = (s.face f).loop
                        ∧ (s.stateOf f = .outOfService → t.stateOf f = .outOfService)
                        ∧ (t.fireActive = true → s.stateOf f ≠ .outOfService →
                            (s.stateOf f = .released ∨ (s.face f).release.fire = false) →
                            t.stateOf f = .released ∧ (t.face f).release.fire = true ∧ (t.face f).permit = false)
                        ∧ (t.fireActive = false → s.stateOf f ≠ .outOfService →
                            t.stateOf f = s.stateOf f ∧ (t.face f).release.fire = false))

/-- The open travel deadline and the dwell expiry (R73, R75, R76, R80, R87, R140). Open travel: with the summary
clear, the granted bays not open fail, each posted, and OBSTRUCT is raised for them; unmasked it holds the face,
masked the face goes on to OPEN with its dwell. Dwell: FLOW with a fresh passage and extensions left extends it;
else, with the hold satisfied, auto close sends the face to CLOSING or leaves it EXPIRED, and an unsatisfied
hold makes it wait for its connection. With no such deadline nothing happens. That a command of a deadline
stands for its passing, with the counter at the deadline or past it, is the model's choice
(notes/assumptions/2.md), as are that a command of a deadline not held does nothing (notes/assumptions/7.md), that
every BAY_OBSTRUCTED is posted before OBSTRUCT is raised (notes/assumptions/12.md) and that an absent working dwell
base is read as 0 (notes/assumptions/30.md); that in CONNECTION_WAIT no dwell deadline is held any longer is its
choice too (notes/assumptions/46.md). -/
def Obligations.OpeningAndDwellEnd : Prop :=
  ∀ (f : Face) (s : State),
    (((s.face f).seq.openTravel = none ∨ s.stateOf f ≠ .opening) → exec (.openTravelDeadline f) s = .next s)
      ∧ (∀ d u n ns, (s.face f).seq.openTravel = some d → s.stateOf f = .opening → u = advanceTo d s →
          (s.face f).fault.summary = false → (s.face f).berth.vacant = false →
          ((s.face f).seq.grant.filter fun n => !(s.bay f n).any BayEntry.leafOpen) = n :: ns →
          ∃ t, exec (.openTravelDeadline f) s = .next t ∧ Leaves f u t
            ∧ (∀ x ∈ n :: ns, x ∈ (t.face f).seq.failed) ∧ (t.face f).fault.flags.obstruct.isSome = true
            ∧ (t.face f).seq.openTravel = none
            ∧ NextEvent ⟨.bayObstructed, some f, some n, u.time, [0]⟩ s t
            ∧ (FlagSet.has (s.face f).fault.mask .obstruct = false → t.stateOf f = .held)
            ∧ (FlagSet.has (s.face f).fault.mask .obstruct = true →
                t.stateOf f = .opened ∧ (t.face f).seq.substate = some .dwell
                  ∧ (t.face f).seq.openSince = some u.time ∧ (t.face f).seq.extensions = 0
                  ∧ (t.face f).seq.dwellDeadline =
                      some (u.time + sec (((s.face f).seq.dwell.map (·.base)).getD 0))))
      ∧ (((s.face f).seq.dwellDeadline = none ∨ s.stateOf f ≠ .opened) → exec (.dwellExpiry f) s = .next s)
      ∧ ∀ d u w, (s.face f).seq.dwellDeadline = some d → s.stateOf f = .opened → u = advanceTo d s →
          (s.face f).seq.dwell = some w →
          ∀ flows : Prop,
            (flows ↔ w.mode = 1 ∧ (s.face f).seq.extensions < (s.params f).maxExtensions
              ∧ ∃ p, (s.face f).sensing.lastPassage = some p
                  ∧ (u.time - p).toNat ≤ (s.params f).flowWindow * 1000) →
            (flows → Composed s →
                exec (.dwellExpiry f) s = .next
                  (post .dwellExtended (some f) none [(s.face f).seq.extensions + 1]
                    (modSeq f
                      (fun r =>
                        { r with
                          dwellDeadline := some (u.time + sec w.step)
                          extensions := r.extensions + 1 })
                      u)))
              ∧ (¬flows → (∀ h, (u.face f).seq.hold = some h → h.minimum * 1000 ≤ h.accumulated) →
                  ((s.params f).autoClose = 0 → Composed s →
                      exec (.dwellExpiry f) s = .next
                        (modSeq f
                          (fun r =>
                            { r with
                              substate := some .expired
                              dwellDeadline := none
                              hold := r.hold.map fun h => { h with capDeadline := none } })
                          u))
                    ∧ ((s.params f).autoClose = 1 → (∃ e ∈ (s.face f).bays, e.locked = false) →
                        ∃ t, exec (.dwellExpiry f) s = .next t ∧ Leaves f u t
                          ∧ t.stateOf f = .closing ∧ (t.face f).seq.hold = none
                          ∧ (t.face f).seq.dwellDeadline = none ∧ (t.face f).seq.substate = none
                          ∧ (t.face f).berth.doorList = []
                          ∧ (t.face f).seq.closingKind = some .normal
                          ∧ (t.face f).seq.endOfWarning = some (u.time + sec (s.params f).warningPeriod)
                          ∧ (t.face f).seq.closing = (s.face f).bays.map (fun e =>
                              ⟨e.num, if e.locked then .locked else .waiting, 0, none, false, false, none⟩)
                          ∧ NextEvent ⟨.closing, some f, none, u.time, [1]⟩ s t))
              ∧ (¬flows → Composed s →
                  ∀ h, (u.face f).seq.hold = some h → h.accumulated < h.minimum * 1000 →
                    exec (.dwellExpiry f) s = .next
                      (post .connectionWait (some f) none [h.accumulated / 1000, h.minimum]
                        (modSeq f
                          (fun r =>
                            { r with
                              substate := some .connectionWait
                              dwellDeadline := none
                              hold := some { h with capDeadline := some (u.time + sec h.cap) } })
                          u)))

/-- The ends of a connection hold's wait (R80): the minimum is reached at once or after the milliseconds that
still lack, where both faces stand in OPEN, and the face does as at a satisfied expiry; the cap passes with
CONNECTION_MISSED, and the face does the same. Where no record waits, or the time does not count, nothing
happens. That a command of a deadline stands for its passing, with the counter at the deadline or past it, is
the model's choice (notes/assumptions/2.md), as is that a command of a deadline not held does nothing
(notes/assumptions/7.md). -/
def Obligations.ConnectionWaitEnds : Prop :=
  ∀ (f : Face) (s : State),
    (((s.face f).seq.substate ≠ some .connectionWait ∨ (s.face f).seq.hold = none) →
        exec (.minimumReached f) s = .next s ∧ exec (.capDeadline f) s = .next s)
      ∧ ∀ h, (s.face f).seq.substate = some .connectionWait → (s.face f).seq.hold = some h →
        (h.accumulated < h.minimum * 1000 → (s.stateOf f ≠ .opened ∨ s.stateOf (otherFace f) ≠ .opened) →
            exec (.minimumReached f) s = .next s)
          ∧ (h.capDeadline = none → exec (.capDeadline f) s = .next s)
          ∧ (∀ u, u = elapse (h.minimum * 1000 - h.accumulated) s →
              (h.minimum * 1000 ≤ h.accumulated ∨ s.stateOf f = .opened ∧ s.stateOf (otherFace f) = .opened) →
              ((s.params f).autoClose = 0 → Composed s →
                  exec (.minimumReached f) s = .next
                    (modSeq f
                      (fun r =>
                        { r with
                          substate := some .expired
                          dwellDeadline := none
                          hold := r.hold.map fun h => { h with capDeadline := none } })
                      u))
                ∧ ((s.params f).autoClose = 1 → (∃ e ∈ (s.face f).bays, e.locked = false) →
                    ∃ t, exec (.minimumReached f) s = .next t ∧ Leaves f u t
                      ∧ t.stateOf f = .closing ∧ (t.face f).seq.hold = none
                      ∧ (t.face f).seq.closingKind = some .normal
                      ∧ (t.face f).seq.endOfWarning = some (u.time + sec (s.params f).warningPeriod)
                      ∧ NextEvent ⟨.closing, some f, none, u.time, [1]⟩ s t))
          ∧ ∀ d u g, h.capDeadline = some d → u = advanceTo d s → (u.face f).seq.hold = some g →
              ((s.params f).autoClose = 0 → Composed s →
                  exec (.capDeadline f) s = .next
                    (modSeq f
                      (fun r =>
                        { r with
                          substate := some .expired
                          dwellDeadline := none
                          hold := some { g with capDeadline := none } })
                      (post .connectionMissed (some f) none [g.accumulated / 1000] u)))
                ∧ ((s.params f).autoClose = 1 → (∃ e ∈ (s.face f).bays, e.locked = false) →
                    ∃ t, exec (.capDeadline f) s = .next t ∧ Leaves f u t
                      ∧ t.stateOf f = .closing ∧ (t.face f).seq.hold = none
                      ∧ (t.face f).seq.closingKind = some .normal
                      ∧ (t.face f).seq.endOfWarning = some (u.time + sec (s.params f).warningPeriod)
                      ∧ NextEvent ⟨.connectionMissed, some f, none, u.time, [g.accumulated / 1000]⟩ s t)

/-- The end of warning and the doorway deadline (R81 to R85, R87, R120, R135, R143, R144). At the end of warning
every bay that waits is taken: a bay held by its doorway with a doorway hold above 0 goes to DOORWAY, and any other
is ordered CLOSE, or, with its gap ACTIVE, trips; the warning is cut and the doorway deadline set. At the doorway
deadline the bays in DOORWAY are ordered CLOSE or trip. Bays in the other phases stay. A trip orders OPEN where it
may, counts a retry and pauses the bay. Past the close retries with OBSTRUCT unmasked the bay is LEFT, posted and
obstructed, and a summary newly set holds the face, whose procedure ends with its list kept; with OBSTRUCT masked
the bay pauses all the same, and the first count above the close retries alone is posted and raised. With no such
deadline nothing happens. That a command of a deadline stands for its passing, with the counter at the deadline or
past it, is the model's choice (notes/assumptions/2.md), as are that a command of a deadline not held does nothing
(notes/assumptions/7.md), that the bays of one deadline are all taken before what they raise is raised, as one
occurrence (notes/assumptions/12.md), and that an entry loses its deadline with the phase that set it
(notes/assumptions/47.md). A doorway deadline stays after it has passed (notes/assumptions/24.md). -/
def Obligations.WarningAndDoorwayEnd : Prop :=
  ∀ (f : Face) (s : State),
    (((s.face f).seq.endOfWarning = none ∨ (s.face f).seq.closingKind = none) →
        exec (.endOfWarning f) s = .next s)
      ∧ (((s.face f).seq.doorway = none ∨ (s.face f).seq.closingKind = none) →
          exec (.doorwayDeadline f) s = .next s)
      ∧ ∀ (kind : ClosingKind) (c : Instr) (d : Time) (u : State) (src : Phase),
          (s.face f).seq.closingKind = some kind → u = advanceTo d s →
          (c = .endOfWarning f ∧ src = .waiting ∧ (s.face f).seq.endOfWarning = some d
            ∨ c = .doorwayDeadline f ∧ src = .doorway ∧ (s.face f).seq.doorway = some d) →
          ∀ (held : BayEntry → Prop) (raises : Nat → ClosingEntry → Prop) (stops : Prop)
            (ended : ClosingEntry → ClosingEntry),
            (∀ e, held e ↔ src = .waiting ∧ 0 < (s.params f).doorwayHold
              ∧ ∃ b, e.beams = some b ∧ (b.brokenA = true ∨ b.brokenB = true)) →
            (∀ n x, raises n x ↔ s.entry f n = some x ∧ x.phase = src
              ∧ (∃ e, s.bay f n = some e ∧ ¬held e ∧ e.gapIsActive = true)
              ∧ (if FlagSet.has (s.face f).fault.mask .obstruct then x.retries = (s.params f).closeRetries
                  else (s.params f).closeRetries ≤ x.retries)) →
            (stops ↔ FlagSet.has (s.face f).fault.mask .obstruct = false ∧ (s.face f).fault.summary = false
              ∧ (s.stateOf f).summaryMoves = true ∧ ∃ n x, raises n x) →
            (∀ x, (stops → ended x = { x with deadline := none, travel := none }) ∧ (¬stops → ended x = x)) →
            ∃ t, exec c s = .next t ∧ Leaves f u t
              ∧ (¬stops → t.stateOf f = s.stateOf f ∧ (t.face f).seq.closingKind = some kind)
              ∧ (stops → t.stateOf f = .held ∧ (t.face f).seq.closingKind = none
                  ∧ (t.face f).seq.doorway = none)
              ∧ (c = .endOfWarning f →
                  (t.face f).seq.endOfWarning = none ∧ (t.face f).seq.warning = false
                    ∧ .groupWarn false ∈ (t.face f).bus.dispatch
                    ∧ (¬stops → (t.face f).seq.doorway = some (u.time + sec (s.params f).doorwayHold)))
              ∧ ((∀ n x, ¬raises n x) → (t.face f).fault = (s.face f).fault)
              ∧ (∀ n x, raises n x →
                  Posted ⟨.bayObstructed, some f, some n, u.time, [x.retries + 1]⟩ t
                    ∧ (s.stateOf f ≠ .outOfService →
                        (t.face f).fault.flags.obstruct.isSome = true
                          ∧ ((s.face f).fault.flags.obstruct = none → Ascending (·.bay) (s.face f).seq.closing →
                              (∀ m y, raises m y → n ≤ m) →
                              (t.face f).fault.flags.obstruct = some ⟨some n, u.time⟩)))
              ∧ (∀ n, (∀ x, ¬raises n x) →
                  ∀ r ∈ t.events, r.kind = .bayObstructed → r.face = some f → r.bay = some n → r ∈ s.events)
              ∧ ∀ n x, s.entry f n = some x →
                  (x.phase ≠ src → t.entry f n = some (ended x))
                    ∧ (x.phase = src → ∀ e, s.bay f n = some e →
                        (held e → t.entry f n = some (ended { x with phase := .doorway, deadline := none }))
                          ∧ (¬held e → e.gapIsActive = false →
                              t.entry f n = some (ended
                                  { x with
                                    phase := .sent
                                    deadline := none
                                    proving := false
                                    travel := some (u.time + sec (s.params f).openTravel) })
                                ∧ (¬stops → ∃ e', t.bay f n = some e'
                                  ∧ (e'.inFlight = some .closeLeaf ∨ e'.waiting = some .closeLeaf)))
                          ∧ (¬held e → e.gapIsActive = true →
                              ((x.retries < (s.params f).closeRetries
                                  ∨ FlagSet.has (s.face f).fault.mask .obstruct = true) →
                                t.entry f n = some (ended
                                  { x with
                                    phase := .pause
                                    retries := x.retries + 1
                                    deadline := some (u.time + sec (s.params f).reopenPause)
                                    proving := false
                                    travel := none }))
                                ∧ ((s.params f).closeRetries ≤ x.retries →
                                    FlagSet.has (s.face f).fault.mask .obstruct = false →
                                    t.entry f n = some
                                      { x with
                                        phase := .left
                                        retries := x.retries + 1
                                        deadline := none
                                        proving := false
                                        travel := none })
                                ∧ ∃ e', t.bay f n = some e'
                                  ∧ (kind ≠ .motion → e.isolated = false →
                                      (if kind = .recovery then
                                          (s.face f).meas.status = .current ∧ n ∈ (s.face f).meas.evacuation
                                        else e.granted = true) →
                                      e'.inFlight = some .openLeaf ∨ e'.waiting = some .openLeaf)
                                  ∧ ((kind = .motion ∨ e.isolated = true ∨ kind ≠ .recovery ∧ e.granted = false) →
                                      e'.inFlight = some .openLeaf ∨ e'.waiting = some .openLeaf →
                                      e.inFlight = some .openLeaf ∨ e.waiting = some .openLeaf)))

/-- The deadlines and the reports of one bay of a closing procedure (R81 to R85, R87, R91, R120, R135, R143, R144).
The reopen pause ends: with the gap ACTIVE the bay waits for it, else it is ordered CLOSE. The open travel limit of
the latest CLOSE passes with the leaf not reported CLOSED since: a retry and CLOSE again while retries are left;
past them with OBSTRUCT unmasked the bay is LEFT and obstructed, and a CLOSING face is held; with OBSTRUCT masked
the retry goes on, and the first count above the close retries alone is posted and raised. The lock proof time
passes with the lock not proven: LOCK is raised; masked, CLOSE is sent once more with a travel limit of its own, and
after that the bay is waited for; unmasked, a CLOSING face is held. A report of a bay not locked: leaf CLOSED in
SENT sets the lock proof deadline; an obstacle in SENT past the close retries leaves the bay or, masked, pauses it;
a bay in LOCKED is ordered CLOSE, as is one in DOORWAY whose beams are both made and one in GAP_WAIT whose gap turns
CLEAR; a gap that turns ACTIVE in SENT, or is ACTIVE as a doorway clears, trips; in WAITING, PAUSE and LEFT nothing
moves. With no such deadline nothing happens. That a command of a deadline stands for its passing, with the counter
at the deadline or past it, is the model's choice (notes/assumptions/2.md), as is that a command of a deadline not
held does nothing (notes/assumptions/7.md). That BAY_OBSTRUCTED is posted before OBSTRUCT is raised is its choice
too (notes/assumptions/12.md), and so is that an answer at the window's very end is within it
(notes/assumptions/18.md). That an entry loses its deadline with the phase that set it, and its lock proof deadline
at the second expiry, is the model's choice (notes/assumptions/47.md). That the end of a pause with the gap ACTIVE counts no retry is the model's reading of R84
(notes/assumptions/13.md). -/
def Obligations.BayDeadlinesMoveTheirBay : Prop :=
  ∀ (f : Face) (n : Nat) (s : State),
    (((s.face f).seq.closingKind = none ∨ s.entry f n = none
          ∨ ∃ x, s.entry f n = some x ∧ (x.phase ≠ .pause ∨ x.deadline = none)) →
        exec (.reopenPauseEnd f n) s = .next s)
      ∧ (((s.face f).seq.closingKind = none ∨ s.entry f n = none
            ∨ ∃ x, s.entry f n = some x ∧ (x.phase ≠ .sent ∨ x.travel = none)) →
          exec (.closeTravelLimit f n) s = .next s)
      ∧ (((s.face f).seq.closingKind = none ∨ s.entry f n = none
            ∨ ∃ x, s.entry f n = some x ∧ (x.phase ≠ .sent ∨ x.proving = false ∨ x.deadline = none)) →
          exec (.lockProofDeadline f n) s = .next s)
      ∧ (∀ x e u, (s.face f).seq.closingKind.isSome = true → s.entry f n = some x → s.bay f n = some e →
          (∀ d, x.phase = .pause → x.deadline = some d → u = advanceTo d s →
              (Composed s → e.gapIsActive = true →
                  exec (.reopenPauseEnd f n) s = .next
                    (modEntry f n (fun y => { y with phase := .gapWait, deadline := none }) u))
                ∧ (e.gapIsActive = false →
                    ∃ t e', exec (.reopenPauseEnd f n) s = .next t ∧ Leaves f u t ∧ t.stateOf f = s.stateOf f
                      ∧ t.entry f n = some
                          { x with
                            phase := .sent
                            deadline := none
                            proving := false
                            travel := some (u.time + sec (s.params f).openTravel) }
                      ∧ t.bay f n = some e'
                      ∧ (e'.inFlight = some .closeLeaf ∨ e'.waiting = some .closeLeaf)))
            ∧ (∀ d, x.phase = .sent → x.travel = some d → u = advanceTo d s →
                (x.retries < (s.params f).closeRetries →
                    ∃ t e', exec (.closeTravelLimit f n) s = .next t ∧ Leaves f u t ∧ t.stateOf f = s.stateOf f
                      ∧ (t.face f).fault = (s.face f).fault
                      ∧ t.entry f n = some
                          { x with
                            retries := x.retries + 1
                            deadline := none
                            proving := false
                            travel := some (u.time + sec (s.params f).openTravel) }
                      ∧ t.bay f n = some e'
                      ∧ (e'.inFlight = some .closeLeaf ∨ e'.waiting = some .closeLeaf))
                  ∧ ((s.params f).closeRetries ≤ x.retries →
                      FlagSet.has (s.face f).fault.mask .obstruct = false →
                      ∃ t, exec (.closeTravelLimit f n) s = .next t ∧ Leaves f u t
                        ∧ t.entry f n = some
                            { x with retries := x.retries + 1, phase := .left, deadline := none, travel := none }
                        ∧ NextEvent ⟨.bayObstructed, some f, some n, u.time, [x.retries + 1]⟩ s t
                        ∧ (s.stateOf f = .closing → (s.face f).fault.summary = false →
                            t.stateOf f = .held ∧ (t.face f).seq.closingKind = none
                              ∧ (t.face f).fault.flags.obstruct = some ⟨some n, u.time⟩))
                  ∧ ((s.params f).closeRetries ≤ x.retries →
                      FlagSet.has (s.face f).fault.mask .obstruct = true → s.stateOf f ≠ .outOfService →
                      ∃ t e', exec (.closeTravelLimit f n) s = .next t ∧ Leaves f u t
                        ∧ t.stateOf f = s.stateOf f
                        ∧ t.entry f n = some
                            { x with
                              retries := x.retries + 1
                              deadline := none
                              proving := false
                              travel := some (u.time + sec (s.params f).openTravel) }
                        ∧ t.bay f n = some e'
                        ∧ (e'.inFlight = some .closeLeaf ∨ e'.waiting = some .closeLeaf)
                        ∧ (x.retries = (s.params f).closeRetries →
                            NextEvent ⟨.bayObstructed, some f, some n, u.time, [x.retries + 1]⟩ s t
                              ∧ (t.face f).fault.flags.obstruct.isSome = true)
                        ∧ (x.retries ≠ (s.params f).closeRetries → (t.face f).fault = (s.face f).fault
                            ∧ (Composed s → t.events = s.events))))
            ∧ ∀ d, x.phase = .sent → x.proving = true → x.deadline = some d → u = advanceTo d s →
                (s.stateOf f ≠ .outOfService → FlagSet.has (s.face f).fault.mask .lock = true →
                    ∃ t, exec (.lockProofDeadline f n) s = .next t ∧ Leaves f u t ∧ t.stateOf f = s.stateOf f
                      ∧ (t.face f).fault.flags.lock.isSome = true
                      ∧ (x.repeated = true → t.entry f n = some { x with deadline := none })
                      ∧ (x.repeated = false →
                          t.entry f n = some
                              { x with
                                repeated := true
                                deadline := some (u.time + ms (s.params f).lockProof)
                                travel := some (u.time + sec (s.params f).openTravel) }
                            ∧ ∃ e', t.bay f n = some e'
                              ∧ (e'.inFlight = some .closeLeaf ∨ e'.waiting = some .closeLeaf)))
                  ∧ (s.stateOf f = .closing → FlagSet.has (s.face f).fault.mask .lock = false →
                      (s.face f).fault.summary = false →
                      ∃ t, exec (.lockProofDeadline f n) s = .next t ∧ Leaves f u t
                        ∧ t.stateOf f = .held ∧ (t.face f).seq.closingKind = none
                        ∧ (t.face f).fault.flags.lock = some ⟨some n, u.time⟩
                        ∧ (t.face f).fault.record = some
                            { flag := .lock
                              bay := some n
                              state := .closing
                              substate := (s.face f).seq.substate
                              lastAccepted := (s.face f).seq.lastAccepted
                              time := u.time
                              byMask := false }))
      ∧ ∀ bs r x e, Answers f n r bs s → (s.face f).seq.closingKind.isSome = true → s.entry f n = some x →
          s.bay f n = some e → (r.pulled = true ↔ n ∈ (s.face f).release.pulled) → r.lock = false →
          (s.stateOf f = .closing ∨ s.stateOf f = .held ∨ s.stateOf f = .released) →
          ∃ t e', exec (.reportAnswer f bs) s = .next t ∧ Leaves f s t ∧ t.bay f n = some e'
            ∧ ((x.phase = .waiting ∨ x.phase = .pause ∨ x.phase = .left
                  ∨ GapSteady r e ∧ (x.phase = .gapWait
                    ∨ x.phase = .sent ∧ r.obstacle = false ∧ r.leaf ≠ .closed)) →
                t.entry f n = some x ∧ t.stateOf f = s.stateOf f
                  ∧ (t.face f).fault.flags.obstruct = (s.face f).fault.flags.obstruct)
            ∧ (x.phase = .sent → GapSteady r e → r.obstacle = false → r.leaf = .closed →
                t.stateOf f = s.stateOf f
                  ∧ t.entry f n = some
                      (if x.proving then { x with travel := none }
                        else
                          { x with
                            deadline := some (s.time + ms (s.params f).lockProof)
                            proving := true
                            travel := none }))
            ∧ (x.phase = .sent → GapSteady r e → r.obstacle = true → (s.params f).closeRetries ≤ x.retries →
                (FlagSet.has (s.face f).fault.mask .obstruct = false →
                    t.entry f n = some
                        { x with
                          phase := .left
                          retries := x.retries + 1
                          deadline := none
                          proving := false
                          travel := none }
                      ∧ Posted ⟨.bayObstructed, some f, some n, s.time, [x.retries + 1]⟩ t
                      ∧ (t.face f).fault.flags.obstruct.isSome = true
                      ∧ (s.stateOf f = .closing → (s.face f).fault.summary = false →
                          t.stateOf f = .held ∧ (t.face f).seq.closingKind = none))
                  ∧ (FlagSet.has (s.face f).fault.mask .obstruct = true →
                      t.stateOf f = s.stateOf f
                        ∧ t.entry f n = some
                            { x with
                              phase := .pause
                              retries := x.retries + 1
                              deadline := some (s.time + sec (s.params f).reopenPause)
                              proving := false
                              travel := none }
                        ∧ (x.retries = (s.params f).closeRetries →
                            Posted ⟨.bayObstructed, some f, some n, s.time, [x.retries + 1]⟩ t
                              ∧ (t.face f).fault.flags.obstruct.isSome = true)
                        ∧ (x.retries ≠ (s.params f).closeRetries →
                            (t.face f).fault.flags.obstruct = (s.face f).fault.flags.obstruct)))
            ∧ ((x.phase = .locked ∨ x.phase = .doorway ∧ GapSteady r e ∧ e.gapIsActive = false
                    ∧ r.obstacle = false ∧ r.leaf ≠ .closed
                    ∧ (∃ d, e.beams = some d ∧ beamAfter .a d.brokenA r.events = false
                      ∧ beamAfter .b d.brokenB r.events = false)
                  ∨ x.phase = .gapWait ∧ r.gapActive = false ∧ r.obstacle = false ∧ r.leaf ≠ .closed
                    ∧ GapTurns r e (s.params f).gapQualify s.time) →
                t.stateOf f = s.stateOf f
                  ∧ t.entry f n = some
                      { x with
                        phase := .sent
                        deadline := none
                        proving := false
                        travel := some (s.time + sec (s.params f).openTravel) }
                  ∧ (e'.inFlight = some .closeLeaf ∨ e'.waiting = some .closeLeaf))
            ∧ (x.phase = .doorway → (∀ d, e.beams = some d → beamAfter .a d.brokenA r.events = true
                  ∨ beamAfter .b d.brokenB r.events = true) → t.entry f n = some x)
            ∧ ((x.phase = .sent ∧ r.gapActive = true ∧ GapTurns r e (s.params f).gapQualify s.time
                  ∨ x.phase = .doorway ∧ GapSteady r e ∧ e.gapIsActive = true
                    ∧ ∃ d, e.beams = some d ∧ beamAfter .a d.brokenA r.events = false
                      ∧ beamAfter .b d.brokenB r.events = false) →
                (x.retries < (s.params f).closeRetries →
                    t.stateOf f = s.stateOf f
                      ∧ t.entry f n = some
                          { x with
                            phase := .pause
                            retries := x.retries + 1
                            deadline := some (s.time + sec (s.params f).reopenPause)
                            proving := false
                            travel := none }
                      ∧ ((s.face f).seq.closingKind ≠ some .motion → e.isolated = false →
                          (if (s.face f).seq.closingKind = some .recovery then
                              (s.face f).meas.status = .current ∧ n ∈ (s.face f).meas.evacuation
                            else e.granted = true) →
                          e'.inFlight = some .openLeaf ∨ e'.waiting = some .openLeaf)
                      ∧ ((s.face f).seq.closingKind = some .motion ∨ e.isolated = true
                            ∨ (s.face f).seq.closingKind ≠ some .recovery ∧ e.granted = false →
                          e'.inFlight = some .openLeaf ∨ e'.waiting = some .openLeaf →
                          e.inFlight = some .openLeaf ∨ e.waiting = some .openLeaf))
                  ∧ ((s.params f).closeRetries ≤ x.retries →
                      FlagSet.has (s.face f).fault.mask .obstruct = false →
                      t.entry f n = some
                          { x with
                            phase := .left
                            retries := x.retries + 1
                            deadline := none
                            proving := false
                            travel := none }
                        ∧ Posted ⟨.bayObstructed, some f, some n, s.time, [x.retries + 1]⟩ t
                        ∧ (t.face f).fault.flags.obstruct.isSome = true))

/-! ### Sensing -/

/-- What a delivered report's gap and beam fields do (R110 to R114, R115 to R118). The gap qualifier follows the six
rows of R112, and a change of the qualified state is posted with the time its interval started; one to ACTIVE raises
GAP in EMPTY and CLOSED_LOCKED (R114), and none does in the states from ARRIVING to OPEN. A beam event takes its
edge time from its age, never earlier than the bay's last edge. An edge that does not change its beam's level
returns the decoder to IDLE and is discarded; any other does what the decoder's table says of its state, and sets
the level. A passage completes where the last MAKE leaves both beams made: it counts for the entry side's direction,
and its edge time becomes the face's last-passage time where it is later. Four events that break one beam and then
the other within the pairing window and make both again are so one passage, and breaks further apart one discarded
passage. The premises leave out a report that ends a SURVEY, which clears the counts. That an answer at the window's
very end is within it is the model's choice (notes/assumptions/18.md). -/
def Obligations.SensingFollowsItsTables : Prop :=
  ∀ (f : Face) (bs : List Byte) (tr : Trans) (n : Nat) (r : Report) (e : BayEntry) (s : State),
    (s.face f).bus.outstanding = some tr → (∃ rep, tr.kind = .poll n rep) ∨ tr.kind = .followUp n →
    InWindow tr s → reportOf n bs = some r → s.bay f n = some e →
    (∀ q, e.gap = some q → ∀ q' : GapQualifier,
        q' =
          (if r.gapActive = q.active then { q with start := none, lastCount := some r.count }
            else
              match q.start with
              | none => { q with start := some s.time, lastCount := some r.count }
              | some st =>
                if (∃ c, q.lastCount = some c ∧ c ≠ r.count) then
                  { q with start := some s.time, lastCount := some r.count }
                else if (s.time - st).toNat < (s.params f).gapQualify then { q with lastCount := some r.count }
                else ⟨r.gapActive, none, some r.count, some s.time⟩) →
        ∃ t e', exec (.reportAnswer f bs) s = .next t ∧ t.bay f n = some e' ∧ e'.gap = some q'
          ∧ (∀ st, q'.active ≠ q.active → q.start = some st → e.silent = false →
              (r.pulled = true ↔ n ∈ (s.face f).release.pulled) →
              NextEvent
                ⟨if r.gapActive then .gapActive else .gapClear, some f, some n, s.time,
                  [(st.toNat / 1000) % 65536]⟩ s t)
          ∧ (q.active = false → q'.active = true → (s.stateOf f = .empty ∨ s.stateOf f = .closedLocked) →
              (r.pulled = true ↔ n ∈ (s.face f).release.pulled) →
              (t.face f).fault.flags.gap.isSome = true
                ∧ ((s.face f).fault.flags.gap = none → (t.face f).fault.flags.gap = some ⟨some n, s.time⟩)
                ∧ (FlagSet.has (s.face f).fault.mask .gap = false → (s.face f).fault.summary = false →
                    t.stateOf f = .held))
          ∧ ((s.stateOf f = .arriving ∨ s.stateOf f = .measuring ∨ s.stateOf f = .berthed
                ∨ s.stateOf f = .opening ∧ (s.face f).berth.vacant = false ∨ s.stateOf f = .opened) →
              (s.face f).seq.closingKind = none →
              (t.face f).fault.flags.gap = (s.face f).fault.flags.gap))
      ∧ (∀ (d d' : Decoder) (x : Side) (make : Bool) (age : Nat) (tm : Time),
          e.beams = some d → s.stateOf f ≠ .survey → r.events = [⟨x, make, age⟩] →
          tm = (match d.lastEdge with
            | none => s.time - BitVec.ofNat 32 age
            | some l =>
              if 0 < (l - (s.time - BitVec.ofNat 32 age)).toNat
                  ∧ (l - (s.time - BitVec.ofNat 32 age)).toNat < 2147483648
              then l else s.time - BitVec.ofNat 32 age) →
          d' =
            { d with
              lastEdge := some tm
              brokenA := if x = .a then !make else d.brokenA
              brokenB := if x = .b then !make else d.brokenB } →
          ∃ t e', exec (.reportAnswer f bs) s = .next t ∧ t.bay f n = some e'
            ∧ (d.broken x = !make →
                e'.beams = some
                    { d' with
                      state := .idle
                      firstBreak := none
                      entrySide := none
                      discarded := min 65535 (d.discarded + 1) }
                  ∧ (t.face f).sensing = (s.face f).sensing)
            ∧ (d.broken x = make → ∀ y, y ≠ x →
                (d.state = .idle → make = false → d.broken y = false →
                    e'.beams = some
                        { d' with
                          state := if x = .a then .aFirst else .bFirst
                          firstBreak := some tm }
                      ∧ (t.face f).sensing = (s.face f).sensing)
                  ∧ (d.state = .idle → make = true ∨ d.broken y = true →
                      e'.beams = some d' ∧ (t.face f).sensing = (s.face f).sensing)
                  ∧ (∀ t0, d.state = (if y = .a then .aFirst else .bFirst) → make = false →
                      d.firstBreak = some t0 →
                      ((tm - t0).toNat ≤ (s.params f).pairingWindow →
                          e'.beams = some
                              { d' with state := .bothIn, entrySide := some y, firstBreak := none }
                            ∧ (t.face f).sensing = (s.face f).sensing)
                        ∧ ((s.params f).pairingWindow < (tm - t0).toNat →
                            e'.beams = some
                                { d' with
                                  state := .idle
                                  firstBreak := none
                                  entrySide := none
                                  discarded := min 65535 (d.discarded + 1) }
                              ∧ (t.face f).sensing = (s.face f).sensing))
                  ∧ (d.state = (if x = .a then .aFirst else .bFirst) → make = true →
                      e'.beams = some
                          { d' with
                            state := .idle
                            firstBreak := none
                            entrySide := none
                            discarded := min 65535 (d.discarded + 1) }
                        ∧ (t.face f).sensing = (s.face f).sensing)
                  ∧ (d.state = .bothIn → make = false ∨ d.broken y = true →
                      e'.beams = some d' ∧ (t.face f).sensing = (s.face f).sensing)
                  ∧ (∀ z, d.state = .bothIn → make = true → d.broken y = false → d.entrySide = some z →
                      e'.beams = some
                          { d' with
                            state := .idle
                            firstBreak := none
                            entrySide := none
                            boarded := if z = .a then min 65535 (d.boarded + 1) else d.boarded
                            alighted := if z = .b then min 65535 (d.alighted + 1) else d.alighted }
                        ∧ (t.face f).sensing.lastPassage =
                            (match (s.face f).sensing.lastPassage with
                              | none => some tm
                              | some p =>
                                if 0 < (tm - p).toNat ∧ (tm - p).toNat < 2147483648 then some tm
                                else some p))))
      ∧ ∀ (d : Decoder) (x y : Side) (a₁ a₂ a₃ a₄ : Nat),
        e.beams = some d → s.stateOf f ≠ .survey → d.state = .idle → d.brokenA = false → d.brokenB = false →
        d.lastEdge = none → x ≠ y → a₂ ≤ a₁ → a₃ ≤ a₂ → a₄ ≤ a₃ → a₁ < 1024 →
        r.events = [⟨x, false, a₁⟩, ⟨y, false, a₂⟩, ⟨x, true, a₃⟩, ⟨y, true, a₄⟩] →
        ∃ t e', exec (.reportAnswer f bs) s = .next t ∧ t.bay f n = some e'
          ∧ (a₁ - a₂ ≤ (s.params f).pairingWindow →
              e'.beams = some
                  { d with
                    firstBreak := none
                    entrySide := none
                    lastEdge := some (s.time - BitVec.ofNat 32 a₄)
                    boarded := if x = .a then min 65535 (d.boarded + 1) else d.boarded
                    alighted := if x = .b then min 65535 (d.alighted + 1) else d.alighted }
                ∧ ((s.face f).sensing.lastPassage = none →
                    (t.face f).sensing.lastPassage = some (s.time - BitVec.ofNat 32 a₄)))
          ∧ ((s.params f).pairingWindow < a₁ - a₂ →
              e'.beams = some
                  { d with
                    firstBreak := none
                    entrySide := none
                    lastEdge := some (s.time - BitVec.ofNat 32 a₄)
                    discarded := min 65535 (d.discarded + 1) }
                ∧ (t.face f).sensing.lastPassage = (s.face f).sensing.lastPassage)

/-! ### Invariants -/

/-- The state after power-on has every invariant (R1, R6 to R12, R30, R79, R141, R153). -/
def Obligations.InvariantsHoldAtReset : Prop :=
  Standing State.reset ∧ CollectionsBounded State.reset ∧ PermitComposed State.reset

/-- Every step, from any state that has them, keeps the queue capacities and counts (R158, R159, R168, R169),
RELEASE in no mask (R141), one connection hold at most (R79), the door enable list empty outside OPENING, OPEN
and RELEASED (R30), and the capacities, ranges and ascending keys of the five collections with the range of FIRE
sense (R1, R6 to R12). -/
def Obligations.EveryStepKeepsTheStandingRules : Prop :=
  ∀ s t : State, Standing s → CollectionsBounded s → step s = .next t → Standing t ∧ CollectionsBounded t

/-- PERMIT is never driven against its five inputs (R153, R154): every step, from any state in which both
permits are their composition, ends in one in which a face's PERMIT is asserted exactly while the face is in
EMPTY, ARRIVING, MEASURING, BERTHED or CLOSED_LOCKED, its loop reads closed, every configured bay's latest
report shows lock proven, no bay is SILENT and no gap qualifier of the face is ACTIVE. Where a step changes the
value, PERMIT_CHANGED with the face and the new value stands last in the queue, behind every other record of the
event, unless the queue is full; where both faces' values change, the two records stand last. A step posts one such
record of a face at most, and none where the value stays. At power-on and at RESTART none is posted (R157). -/
def Obligations.PermitIsTheComposition : Prop :=
  ∀ s t : State, PermitComposed s → step s = .next t →
    PermitComposed t
      ∧ (∀ f, (t.face f).permit = true ↔
          (t.stateOf f = .empty ∨ t.stateOf f = .arriving ∨ t.stateOf f = .measuring ∨ t.stateOf f = .berthed
              ∨ t.stateOf f = .closedLocked)
            ∧ (t.face f).loop.level = decide ((t.params f).loopSense = 0)
            ∧ ∀ e ∈ (t.face f).bays,
                (∃ r since, e.report = some (r, since) ∧ r.lock = true) ∧ e.silent = false
                  ∧ ∀ q, e.gap = some q → q.active = false)
      ∧ ∀ (changed : Face → Prop) (record : Face → EventRecord) (resets : Prop),
          (∀ f, changed f ↔ (t.face f).permit ≠ (s.face f).permit) →
          (∀ f, record f =
            ⟨.permitChanged, some f, none, t.time, [if (t.face f).permit = true then 1 else 0]⟩) →
          (resets ↔ ∃ c, s.pending.head? = some c ∧ (c = .powerOn ∨ ∃ tag p, c = .restart tag p)) →
          (resets → ∀ x ∈ t.events, x.kind = .permitChanged → x ∈ s.events)
            ∧ ∀ f,
              (changed f → ¬resets → t.events.length < Config.queueSize →
                  ∃ before after, t.events = before ++ record f :: after
                    ∧ (after = [] ∨ changed (otherFace f) ∧ after = [record (otherFace f)]))
                ∧ (t.events.filter fun x => x.kind == .permitChanged && x.face == some f).length
                    ≤ (s.events.filter fun x => x.kind == .permitChanged && x.face == some f).length
                      + (if (t.face f).permit = (s.face f).permit then 0 else 1)

end
end

