-- ==== Sys2Proof/Laws/State.lean ====
section
/-!
SUPPORT. The small lemmas of the state: one for each field and each named update, so that no proof
unfolds a record update.
-/

namespace Sys2Proof.Machine

/-! ### One value a face -/

@[simp] theorem otherFace_otherFace (f : Face) : otherFace (otherFace f) = f := by cases f <;> rfl

@[simp] theorem otherFace_ne (f : Face) : otherFace f ≠ f := by cases f <;> decide

@[simp] theorem ne_otherFace (f : Face) : f ≠ otherFace f := by cases f <;> decide

/-- A face other than `f` is the other face. -/
theorem eq_otherFace {f g : Face} (h : g ≠ f) : g = otherFace f := by
  cases f <;> cases g <;> first | rfl | exact absurd rfl h

@[simp] theorem PerFace.get_set_same {α : Type} (p : PerFace α) (f : Face) (x : α) : (p.set f x).get f = x := by
  cases f <;> rfl

@[simp] theorem PerFace.get_set_other {α : Type} (p : PerFace α) (f : Face) (x : α) :
    (p.set f x).get (otherFace f) = p.get (otherFace f) := by
  cases f <;> rfl

/-- Two values a face are equal when they agree at a face and at its other face. -/
theorem PerFace.ext_of {α : Type} {p q : PerFace α} (f : Face) (h : p.get f = q.get f)
    (h' : p.get (otherFace f) = q.get (otherFace f)) : p = q := by
  cases f <;> cases p <;> cases q <;> simp_all [PerFace.get, otherFace]

/-! ### modFace -/

@[simp] theorem modFace_time (f : Face) (g : FaceBlock → FaceBlock) (s : State) : (modFace f g s).time = s.time := rfl

@[simp] theorem modFace_store (f : Face) (g : FaceBlock → FaceBlock) (s : State) : (modFace f g s).store = s.store := rfl

@[simp] theorem modFace_fire (f : Face) (g : FaceBlock → FaceBlock) (s : State) : (modFace f g s).fire = s.fire := rfl

@[simp] theorem modFace_serving (f : Face) (g : FaceBlock → FaceBlock) (s : State) : (modFace f g s).serving = s.serving := rfl

@[simp] theorem modFace_waitingFor (f : Face) (g : FaceBlock → FaceBlock) (s : State) : (modFace f g s).waitingFor = s.waitingFor := rfl

@[simp] theorem modFace_receiver (f : Face) (g : FaceBlock → FaceBlock) (s : State) : (modFace f g s).receiver = s.receiver := rfl

@[simp] theorem modFace_rx (f : Face) (g : FaceBlock → FaceBlock) (s : State) : (modFace f g s).rx = s.rx := rfl

@[simp] theorem modFace_dropped (f : Face) (g : FaceBlock → FaceBlock) (s : State) : (modFace f g s).dropped = s.dropped := rfl

@[simp] theorem modFace_overrun (f : Face) (g : FaceBlock → FaceBlock) (s : State) : (modFace f g s).overrun = s.overrun := rfl

@[simp] theorem modFace_discards (f : Face) (g : FaceBlock → FaceBlock) (s : State) : (modFace f g s).discards = s.discards := rfl

@[simp] theorem modFace_events (f : Face) (g : FaceBlock → FaceBlock) (s : State) : (modFace f g s).events = s.events := rfl

@[simp] theorem modFace_batch (f : Face) (g : FaceBlock → FaceBlock) (s : State) : (modFace f g s).batch = s.batch := rfl

@[simp] theorem modFace_stationOut (f : Face) (g : FaceBlock → FaceBlock) (s : State) : (modFace f g s).stationOut = s.stationOut := rfl

@[simp] theorem modFace_freeCount (f : Face) (g : FaceBlock → FaceBlock) (s : State) : (modFace f g s).freeCount = s.freeCount := rfl

@[simp] theorem modFace_pending (f : Face) (g : FaceBlock → FaceBlock) (s : State) : (modFace f g s).pending = s.pending := rfl

@[simp] theorem modFace_face (f : Face) (g : FaceBlock → FaceBlock) (s : State) :
    (modFace f g s).face f = g (s.face f) := by
  cases f <;> rfl

@[simp] theorem modFace_other (f : Face) (g : FaceBlock → FaceBlock) (s : State) :
    (modFace f g s).face (otherFace f) = s.face (otherFace f) := by
  cases f <;> rfl

/-- Two changes of one face are one change. -/
@[simp] theorem modFace_modFace (f : Face) (g h : FaceBlock → FaceBlock) (s : State) :
    modFace f g (modFace f h s) = modFace f (fun b => g (h b)) s := by
  cases f <;> rfl

@[simp] theorem modFace_cfg (f h : Face) (g : FaceBlock → FaceBlock) (s : State) : (modFace f g s).cfg h = s.cfg h := rfl

@[simp] theorem modFace_params (f h : Face) (g : FaceBlock → FaceBlock) (s : State) : (modFace f g s).params h = s.params h := rfl

/-! ### modSeq -/

@[simp] theorem modSeq_time (f : Face) (g : FaceRecord → FaceRecord) (s : State) : (modSeq f g s).time = s.time := rfl

@[simp] theorem modSeq_store (f : Face) (g : FaceRecord → FaceRecord) (s : State) : (modSeq f g s).store = s.store := rfl

@[simp] theorem modSeq_fire (f : Face) (g : FaceRecord → FaceRecord) (s : State) : (modSeq f g s).fire = s.fire := rfl

@[simp] theorem modSeq_serving (f : Face) (g : FaceRecord → FaceRecord) (s : State) : (modSeq f g s).serving = s.serving := rfl

@[simp] theorem modSeq_waitingFor (f : Face) (g : FaceRecord → FaceRecord) (s : State) : (modSeq f g s).waitingFor = s.waitingFor := rfl

@[simp] theorem modSeq_receiver (f : Face) (g : FaceRecord → FaceRecord) (s : State) : (modSeq f g s).receiver = s.receiver := rfl

@[simp] theorem modSeq_rx (f : Face) (g : FaceRecord → FaceRecord) (s : State) : (modSeq f g s).rx = s.rx := rfl

@[simp] theorem modSeq_dropped (f : Face) (g : FaceRecord → FaceRecord) (s : State) : (modSeq f g s).dropped = s.dropped := rfl

@[simp] theorem modSeq_overrun (f : Face) (g : FaceRecord → FaceRecord) (s : State) : (modSeq f g s).overrun = s.overrun := rfl

@[simp] theorem modSeq_discards (f : Face) (g : FaceRecord → FaceRecord) (s : State) : (modSeq f g s).discards = s.discards := rfl

@[simp] theorem modSeq_events (f : Face) (g : FaceRecord → FaceRecord) (s : State) : (modSeq f g s).events = s.events := rfl

@[simp] theorem modSeq_batch (f : Face) (g : FaceRecord → FaceRecord) (s : State) : (modSeq f g s).batch = s.batch := rfl

@[simp] theorem modSeq_stationOut (f : Face) (g : FaceRecord → FaceRecord) (s : State) : (modSeq f g s).stationOut = s.stationOut := rfl

@[simp] theorem modSeq_freeCount (f : Face) (g : FaceRecord → FaceRecord) (s : State) : (modSeq f g s).freeCount = s.freeCount := rfl

@[simp] theorem modSeq_pending (f : Face) (g : FaceRecord → FaceRecord) (s : State) : (modSeq f g s).pending = s.pending := rfl

@[simp] theorem modSeq_face (f : Face) (g : FaceRecord → FaceRecord) (s : State) :
    (modSeq f g s).face f = { s.face f with seq := g (s.face f).seq } := by
  cases f <;> rfl

@[simp] theorem modSeq_other (f : Face) (g : FaceRecord → FaceRecord) (s : State) :
    (modSeq f g s).face (otherFace f) = s.face (otherFace f) := by
  cases f <;> rfl

/-- Two changes of one Face Record are one change. -/
@[simp] theorem modSeq_modSeq (f : Face) (g h : FaceRecord → FaceRecord) (s : State) :
    modSeq f g (modSeq f h s) = modSeq f (fun r => g (h r)) s :=
  modFace_modFace f _ _ s

/-- Changes that agree on a face's record are the same change. -/
theorem modSeq_congr {f : Face} {g h : FaceRecord → FaceRecord} {s : State} (k : g (s.face f).seq = h (s.face f).seq) :
    modSeq f g s = modSeq f h s := by
  unfold modSeq modFace
  dsimp only
  rw [k]

@[simp] theorem modSeq_cfg (f h : Face) (g : FaceRecord → FaceRecord) (s : State) : (modSeq f g s).cfg h = s.cfg h := rfl

@[simp] theorem modSeq_params (f h : Face) (g : FaceRecord → FaceRecord) (s : State) : (modSeq f g s).params h = s.params h := rfl

/-! ### modBerth -/

@[simp] theorem modBerth_time (f : Face) (g : Berth → Berth) (s : State) : (modBerth f g s).time = s.time := rfl

@[simp] theorem modBerth_store (f : Face) (g : Berth → Berth) (s : State) : (modBerth f g s).store = s.store := rfl

@[simp] theorem modBerth_fire (f : Face) (g : Berth → Berth) (s : State) : (modBerth f g s).fire = s.fire := rfl

@[simp] theorem modBerth_serving (f : Face) (g : Berth → Berth) (s : State) : (modBerth f g s).serving = s.serving := rfl

@[simp] theorem modBerth_waitingFor (f : Face) (g : Berth → Berth) (s : State) : (modBerth f g s).waitingFor = s.waitingFor := rfl

@[simp] theorem modBerth_receiver (f : Face) (g : Berth → Berth) (s : State) : (modBerth f g s).receiver = s.receiver := rfl

@[simp] theorem modBerth_rx (f : Face) (g : Berth → Berth) (s : State) : (modBerth f g s).rx = s.rx := rfl

@[simp] theorem modBerth_dropped (f : Face) (g : Berth → Berth) (s : State) : (modBerth f g s).dropped = s.dropped := rfl

@[simp] theorem modBerth_overrun (f : Face) (g : Berth → Berth) (s : State) : (modBerth f g s).overrun = s.overrun := rfl

@[simp] theorem modBerth_discards (f : Face) (g : Berth → Berth) (s : State) : (modBerth f g s).discards = s.discards := rfl

@[simp] theorem modBerth_events (f : Face) (g : Berth → Berth) (s : State) : (modBerth f g s).events = s.events := rfl

@[simp] theorem modBerth_batch (f : Face) (g : Berth → Berth) (s : State) : (modBerth f g s).batch = s.batch := rfl

@[simp] theorem modBerth_stationOut (f : Face) (g : Berth → Berth) (s : State) : (modBerth f g s).stationOut = s.stationOut := rfl

@[simp] theorem modBerth_freeCount (f : Face) (g : Berth → Berth) (s : State) : (modBerth f g s).freeCount = s.freeCount := rfl

@[simp] theorem modBerth_pending (f : Face) (g : Berth → Berth) (s : State) : (modBerth f g s).pending = s.pending := rfl

@[simp] theorem modBerth_face (f : Face) (g : Berth → Berth) (s : State) :
    (modBerth f g s).face f = { s.face f with berth := g (s.face f).berth } := by
  cases f <;> rfl

@[simp] theorem modBerth_other (f : Face) (g : Berth → Berth) (s : State) :
    (modBerth f g s).face (otherFace f) = s.face (otherFace f) := by
  cases f <;> rfl

@[simp] theorem modBerth_cfg (f h : Face) (g : Berth → Berth) (s : State) : (modBerth f g s).cfg h = s.cfg h := rfl

@[simp] theorem modBerth_params (f h : Face) (g : Berth → Berth) (s : State) : (modBerth f g s).params h = s.params h := rfl

/-! ### modMeas -/

@[simp] theorem modMeas_time (f : Face) (g : Measurement → Measurement) (s : State) : (modMeas f g s).time = s.time := rfl

@[simp] theorem modMeas_store (f : Face) (g : Measurement → Measurement) (s : State) : (modMeas f g s).store = s.store := rfl

@[simp] theorem modMeas_fire (f : Face) (g : Measurement → Measurement) (s : State) : (modMeas f g s).fire = s.fire := rfl

@[simp] theorem modMeas_serving (f : Face) (g : Measurement → Measurement) (s : State) : (modMeas f g s).serving = s.serving := rfl

@[simp] theorem modMeas_waitingFor (f : Face) (g : Measurement → Measurement) (s : State) : (modMeas f g s).waitingFor = s.waitingFor := rfl

@[simp] theorem modMeas_receiver (f : Face) (g : Measurement → Measurement) (s : State) : (modMeas f g s).receiver = s.receiver := rfl

@[simp] theorem modMeas_rx (f : Face) (g : Measurement → Measurement) (s : State) : (modMeas f g s).rx = s.rx := rfl

@[simp] theorem modMeas_dropped (f : Face) (g : Measurement → Measurement) (s : State) : (modMeas f g s).dropped = s.dropped := rfl

@[simp] theorem modMeas_overrun (f : Face) (g : Measurement → Measurement) (s : State) : (modMeas f g s).overrun = s.overrun := rfl

@[simp] theorem modMeas_discards (f : Face) (g : Measurement → Measurement) (s : State) : (modMeas f g s).discards = s.discards := rfl

@[simp] theorem modMeas_events (f : Face) (g : Measurement → Measurement) (s : State) : (modMeas f g s).events = s.events := rfl

@[simp] theorem modMeas_batch (f : Face) (g : Measurement → Measurement) (s : State) : (modMeas f g s).batch = s.batch := rfl

@[simp] theorem modMeas_stationOut (f : Face) (g : Measurement → Measurement) (s : State) : (modMeas f g s).stationOut = s.stationOut := rfl

@[simp] theorem modMeas_freeCount (f : Face) (g : Measurement → Measurement) (s : State) : (modMeas f g s).freeCount = s.freeCount := rfl

@[simp] theorem modMeas_pending (f : Face) (g : Measurement → Measurement) (s : State) : (modMeas f g s).pending = s.pending := rfl

@[simp] theorem modMeas_face (f : Face) (g : Measurement → Measurement) (s : State) :
    (modMeas f g s).face f = { s.face f with meas := g (s.face f).meas } := by
  cases f <;> rfl

@[simp] theorem modMeas_other (f : Face) (g : Measurement → Measurement) (s : State) :
    (modMeas f g s).face (otherFace f) = s.face (otherFace f) := by
  cases f <;> rfl

@[simp] theorem modMeas_cfg (f h : Face) (g : Measurement → Measurement) (s : State) : (modMeas f g s).cfg h = s.cfg h := rfl

@[simp] theorem modMeas_params (f h : Face) (g : Measurement → Measurement) (s : State) : (modMeas f g s).params h = s.params h := rfl

/-! ### modBus -/

@[simp] theorem modBus_time (f : Face) (g : Bus → Bus) (s : State) : (modBus f g s).time = s.time := rfl

@[simp] theorem modBus_store (f : Face) (g : Bus → Bus) (s : State) : (modBus f g s).store = s.store := rfl

@[simp] theorem modBus_fire (f : Face) (g : Bus → Bus) (s : State) : (modBus f g s).fire = s.fire := rfl

@[simp] theorem modBus_serving (f : Face) (g : Bus → Bus) (s : State) : (modBus f g s).serving = s.serving := rfl

@[simp] theorem modBus_waitingFor (f : Face) (g : Bus → Bus) (s : State) : (modBus f g s).waitingFor = s.waitingFor := rfl

@[simp] theorem modBus_receiver (f : Face) (g : Bus → Bus) (s : State) : (modBus f g s).receiver = s.receiver := rfl

@[simp] theorem modBus_rx (f : Face) (g : Bus → Bus) (s : State) : (modBus f g s).rx = s.rx := rfl

@[simp] theorem modBus_dropped (f : Face) (g : Bus → Bus) (s : State) : (modBus f g s).dropped = s.dropped := rfl

@[simp] theorem modBus_overrun (f : Face) (g : Bus → Bus) (s : State) : (modBus f g s).overrun = s.overrun := rfl

@[simp] theorem modBus_discards (f : Face) (g : Bus → Bus) (s : State) : (modBus f g s).discards = s.discards := rfl

@[simp] theorem modBus_events (f : Face) (g : Bus → Bus) (s : State) : (modBus f g s).events = s.events := rfl

@[simp] theorem modBus_batch (f : Face) (g : Bus → Bus) (s : State) : (modBus f g s).batch = s.batch := rfl

@[simp] theorem modBus_stationOut (f : Face) (g : Bus → Bus) (s : State) : (modBus f g s).stationOut = s.stationOut := rfl

@[simp] theorem modBus_freeCount (f : Face) (g : Bus → Bus) (s : State) : (modBus f g s).freeCount = s.freeCount := rfl

@[simp] theorem modBus_pending (f : Face) (g : Bus → Bus) (s : State) : (modBus f g s).pending = s.pending := rfl

@[simp] theorem modBus_face (f : Face) (g : Bus → Bus) (s : State) :
    (modBus f g s).face f = { s.face f with bus := g (s.face f).bus } := by
  cases f <;> rfl

@[simp] theorem modBus_other (f : Face) (g : Bus → Bus) (s : State) :
    (modBus f g s).face (otherFace f) = s.face (otherFace f) := by
  cases f <;> rfl

@[simp] theorem modBus_cfg (f h : Face) (g : Bus → Bus) (s : State) : (modBus f g s).cfg h = s.cfg h := rfl

@[simp] theorem modBus_params (f h : Face) (g : Bus → Bus) (s : State) : (modBus f g s).params h = s.params h := rfl

/-! ### modSensing -/

@[simp] theorem modSensing_time (f : Face) (g : Sensing → Sensing) (s : State) : (modSensing f g s).time = s.time := rfl

@[simp] theorem modSensing_store (f : Face) (g : Sensing → Sensing) (s : State) : (modSensing f g s).store = s.store := rfl

@[simp] theorem modSensing_fire (f : Face) (g : Sensing → Sensing) (s : State) : (modSensing f g s).fire = s.fire := rfl

@[simp] theorem modSensing_serving (f : Face) (g : Sensing → Sensing) (s : State) : (modSensing f g s).serving = s.serving := rfl

@[simp] theorem modSensing_waitingFor (f : Face) (g : Sensing → Sensing) (s : State) : (modSensing f g s).waitingFor = s.waitingFor := rfl

@[simp] theorem modSensing_receiver (f : Face) (g : Sensing → Sensing) (s : State) : (modSensing f g s).receiver = s.receiver := rfl

@[simp] theorem modSensing_rx (f : Face) (g : Sensing → Sensing) (s : State) : (modSensing f g s).rx = s.rx := rfl

@[simp] theorem modSensing_dropped (f : Face) (g : Sensing → Sensing) (s : State) : (modSensing f g s).dropped = s.dropped := rfl

@[simp] theorem modSensing_overrun (f : Face) (g : Sensing → Sensing) (s : State) : (modSensing f g s).overrun = s.overrun := rfl

@[simp] theorem modSensing_discards (f : Face) (g : Sensing → Sensing) (s : State) : (modSensing f g s).discards = s.discards := rfl

@[simp] theorem modSensing_events (f : Face) (g : Sensing → Sensing) (s : State) : (modSensing f g s).events = s.events := rfl

@[simp] theorem modSensing_batch (f : Face) (g : Sensing → Sensing) (s : State) : (modSensing f g s).batch = s.batch := rfl

@[simp] theorem modSensing_stationOut (f : Face) (g : Sensing → Sensing) (s : State) : (modSensing f g s).stationOut = s.stationOut := rfl

@[simp] theorem modSensing_freeCount (f : Face) (g : Sensing → Sensing) (s : State) : (modSensing f g s).freeCount = s.freeCount := rfl

@[simp] theorem modSensing_pending (f : Face) (g : Sensing → Sensing) (s : State) : (modSensing f g s).pending = s.pending := rfl

@[simp] theorem modSensing_face (f : Face) (g : Sensing → Sensing) (s : State) :
    (modSensing f g s).face f = { s.face f with sensing := g (s.face f).sensing } := by
  cases f <;> rfl

@[simp] theorem modSensing_other (f : Face) (g : Sensing → Sensing) (s : State) :
    (modSensing f g s).face (otherFace f) = s.face (otherFace f) := by
  cases f <;> rfl

@[simp] theorem modSensing_cfg (f h : Face) (g : Sensing → Sensing) (s : State) : (modSensing f g s).cfg h = s.cfg h := rfl

@[simp] theorem modSensing_params (f h : Face) (g : Sensing → Sensing) (s : State) : (modSensing f g s).params h = s.params h := rfl

/-! ### modRelease -/

@[simp] theorem modRelease_time (f : Face) (g : Release → Release) (s : State) : (modRelease f g s).time = s.time := rfl

@[simp] theorem modRelease_store (f : Face) (g : Release → Release) (s : State) : (modRelease f g s).store = s.store := rfl

@[simp] theorem modRelease_fire (f : Face) (g : Release → Release) (s : State) : (modRelease f g s).fire = s.fire := rfl

@[simp] theorem modRelease_serving (f : Face) (g : Release → Release) (s : State) : (modRelease f g s).serving = s.serving := rfl

@[simp] theorem modRelease_waitingFor (f : Face) (g : Release → Release) (s : State) : (modRelease f g s).waitingFor = s.waitingFor := rfl

@[simp] theorem modRelease_receiver (f : Face) (g : Release → Release) (s : State) : (modRelease f g s).receiver = s.receiver := rfl

@[simp] theorem modRelease_rx (f : Face) (g : Release → Release) (s : State) : (modRelease f g s).rx = s.rx := rfl

@[simp] theorem modRelease_dropped (f : Face) (g : Release → Release) (s : State) : (modRelease f g s).dropped = s.dropped := rfl

@[simp] theorem modRelease_overrun (f : Face) (g : Release → Release) (s : State) : (modRelease f g s).overrun = s.overrun := rfl

@[simp] theorem modRelease_discards (f : Face) (g : Release → Release) (s : State) : (modRelease f g s).discards = s.discards := rfl

@[simp] theorem modRelease_events (f : Face) (g : Release → Release) (s : State) : (modRelease f g s).events = s.events := rfl

@[simp] theorem modRelease_batch (f : Face) (g : Release → Release) (s : State) : (modRelease f g s).batch = s.batch := rfl

@[simp] theorem modRelease_stationOut (f : Face) (g : Release → Release) (s : State) : (modRelease f g s).stationOut = s.stationOut := rfl

@[simp] theorem modRelease_freeCount (f : Face) (g : Release → Release) (s : State) : (modRelease f g s).freeCount = s.freeCount := rfl

@[simp] theorem modRelease_pending (f : Face) (g : Release → Release) (s : State) : (modRelease f g s).pending = s.pending := rfl

@[simp] theorem modRelease_face (f : Face) (g : Release → Release) (s : State) :
    (modRelease f g s).face f = { s.face f with release := g (s.face f).release } := by
  cases f <;> rfl

@[simp] theorem modRelease_other (f : Face) (g : Release → Release) (s : State) :
    (modRelease f g s).face (otherFace f) = s.face (otherFace f) := by
  cases f <;> rfl

@[simp] theorem modRelease_cfg (f h : Face) (g : Release → Release) (s : State) : (modRelease f g s).cfg h = s.cfg h := rfl

@[simp] theorem modRelease_params (f h : Face) (g : Release → Release) (s : State) : (modRelease f g s).params h = s.params h := rfl

/-! ### modFault -/

@[simp] theorem modFault_time (f : Face) (g : FaultUnit → FaultUnit) (s : State) : (modFault f g s).time = s.time := rfl

@[simp] theorem modFault_store (f : Face) (g : FaultUnit → FaultUnit) (s : State) : (modFault f g s).store = s.store := rfl

@[simp] theorem modFault_fire (f : Face) (g : FaultUnit → FaultUnit) (s : State) : (modFault f g s).fire = s.fire := rfl

@[simp] theorem modFault_serving (f : Face) (g : FaultUnit → FaultUnit) (s : State) : (modFault f g s).serving = s.serving := rfl

@[simp] theorem modFault_waitingFor (f : Face) (g : FaultUnit → FaultUnit) (s : State) : (modFault f g s).waitingFor = s.waitingFor := rfl

@[simp] theorem modFault_receiver (f : Face) (g : FaultUnit → FaultUnit) (s : State) : (modFault f g s).receiver = s.receiver := rfl

@[simp] theorem modFault_rx (f : Face) (g : FaultUnit → FaultUnit) (s : State) : (modFault f g s).rx = s.rx := rfl

@[simp] theorem modFault_dropped (f : Face) (g : FaultUnit → FaultUnit) (s : State) : (modFault f g s).dropped = s.dropped := rfl

@[simp] theorem modFault_overrun (f : Face) (g : FaultUnit → FaultUnit) (s : State) : (modFault f g s).overrun = s.overrun := rfl

@[simp] theorem modFault_discards (f : Face) (g : FaultUnit → FaultUnit) (s : State) : (modFault f g s).discards = s.discards := rfl

@[simp] theorem modFault_events (f : Face) (g : FaultUnit → FaultUnit) (s : State) : (modFault f g s).events = s.events := rfl

@[simp] theorem modFault_batch (f : Face) (g : FaultUnit → FaultUnit) (s : State) : (modFault f g s).batch = s.batch := rfl

@[simp] theorem modFault_stationOut (f : Face) (g : FaultUnit → FaultUnit) (s : State) : (modFault f g s).stationOut = s.stationOut := rfl

@[simp] theorem modFault_freeCount (f : Face) (g : FaultUnit → FaultUnit) (s : State) : (modFault f g s).freeCount = s.freeCount := rfl

@[simp] theorem modFault_pending (f : Face) (g : FaultUnit → FaultUnit) (s : State) : (modFault f g s).pending = s.pending := rfl

@[simp] theorem modFault_face (f : Face) (g : FaultUnit → FaultUnit) (s : State) :
    (modFault f g s).face f = { s.face f with fault := g (s.face f).fault } := by
  cases f <;> rfl

@[simp] theorem modFault_other (f : Face) (g : FaultUnit → FaultUnit) (s : State) :
    (modFault f g s).face (otherFace f) = s.face (otherFace f) := by
  cases f <;> rfl

@[simp] theorem modFault_cfg (f h : Face) (g : FaultUnit → FaultUnit) (s : State) : (modFault f g s).cfg h = s.cfg h := rfl

@[simp] theorem modFault_params (f h : Face) (g : FaultUnit → FaultUnit) (s : State) : (modFault f g s).params h = s.params h := rfl

/-! ### modBay -/

@[simp] theorem modBay_time (f : Face) (n : Nat) (g : BayEntry → BayEntry) (s : State) : (modBay f n g s).time = s.time := rfl

@[simp] theorem modBay_store (f : Face) (n : Nat) (g : BayEntry → BayEntry) (s : State) : (modBay f n g s).store = s.store := rfl

@[simp] theorem modBay_fire (f : Face) (n : Nat) (g : BayEntry → BayEntry) (s : State) : (modBay f n g s).fire = s.fire := rfl

@[simp] theorem modBay_serving (f : Face) (n : Nat) (g : BayEntry → BayEntry) (s : State) : (modBay f n g s).serving = s.serving := rfl

@[simp] theorem modBay_waitingFor (f : Face) (n : Nat) (g : BayEntry → BayEntry) (s : State) : (modBay f n g s).waitingFor = s.waitingFor := rfl

@[simp] theorem modBay_receiver (f : Face) (n : Nat) (g : BayEntry → BayEntry) (s : State) : (modBay f n g s).receiver = s.receiver := rfl

@[simp] theorem modBay_rx (f : Face) (n : Nat) (g : BayEntry → BayEntry) (s : State) : (modBay f n g s).rx = s.rx := rfl

@[simp] theorem modBay_dropped (f : Face) (n : Nat) (g : BayEntry → BayEntry) (s : State) : (modBay f n g s).dropped = s.dropped := rfl

@[simp] theorem modBay_overrun (f : Face) (n : Nat) (g : BayEntry → BayEntry) (s : State) : (modBay f n g s).overrun = s.overrun := rfl

@[simp] theorem modBay_discards (f : Face) (n : Nat) (g : BayEntry → BayEntry) (s : State) : (modBay f n g s).discards = s.discards := rfl

@[simp] theorem modBay_events (f : Face) (n : Nat) (g : BayEntry → BayEntry) (s : State) : (modBay f n g s).events = s.events := rfl

@[simp] theorem modBay_batch (f : Face) (n : Nat) (g : BayEntry → BayEntry) (s : State) : (modBay f n g s).batch = s.batch := rfl

@[simp] theorem modBay_stationOut (f : Face) (n : Nat) (g : BayEntry → BayEntry) (s : State) : (modBay f n g s).stationOut = s.stationOut := rfl

@[simp] theorem modBay_freeCount (f : Face) (n : Nat) (g : BayEntry → BayEntry) (s : State) : (modBay f n g s).freeCount = s.freeCount := rfl

@[simp] theorem modBay_pending (f : Face) (n : Nat) (g : BayEntry → BayEntry) (s : State) : (modBay f n g s).pending = s.pending := rfl

@[simp] theorem modBay_face (f : Face) (n : Nat) (g : BayEntry → BayEntry) (s : State) :
    (modBay f n g s).face f = { s.face f with bays := (s.face f).bays.map fun e => if e.num = n then g e else e } := by
  cases f <;> rfl

@[simp] theorem modBay_other (f : Face) (n : Nat) (g : BayEntry → BayEntry) (s : State) :
    (modBay f n g s).face (otherFace f) = s.face (otherFace f) := by
  cases f <;> rfl

@[simp] theorem modBay_cfg (f h : Face) (n : Nat) (g : BayEntry → BayEntry) (s : State) : (modBay f n g s).cfg h = s.cfg h := rfl

@[simp] theorem modBay_params (f h : Face) (n : Nat) (g : BayEntry → BayEntry) (s : State) : (modBay f n g s).params h = s.params h := rfl

/-! ### modBays -/

@[simp] theorem modBays_time (f : Face) (g : BayEntry → BayEntry) (s : State) : (modBays f g s).time = s.time := rfl

@[simp] theorem modBays_store (f : Face) (g : BayEntry → BayEntry) (s : State) : (modBays f g s).store = s.store := rfl

@[simp] theorem modBays_fire (f : Face) (g : BayEntry → BayEntry) (s : State) : (modBays f g s).fire = s.fire := rfl

@[simp] theorem modBays_serving (f : Face) (g : BayEntry → BayEntry) (s : State) : (modBays f g s).serving = s.serving := rfl

@[simp] theorem modBays_waitingFor (f : Face) (g : BayEntry → BayEntry) (s : State) : (modBays f g s).waitingFor = s.waitingFor := rfl

@[simp] theorem modBays_receiver (f : Face) (g : BayEntry → BayEntry) (s : State) : (modBays f g s).receiver = s.receiver := rfl

@[simp] theorem modBays_rx (f : Face) (g : BayEntry → BayEntry) (s : State) : (modBays f g s).rx = s.rx := rfl

@[simp] theorem modBays_dropped (f : Face) (g : BayEntry → BayEntry) (s : State) : (modBays f g s).dropped = s.dropped := rfl

@[simp] theorem modBays_overrun (f : Face) (g : BayEntry → BayEntry) (s : State) : (modBays f g s).overrun = s.overrun := rfl

@[simp] theorem modBays_discards (f : Face) (g : BayEntry → BayEntry) (s : State) : (modBays f g s).discards = s.discards := rfl

@[simp] theorem modBays_events (f : Face) (g : BayEntry → BayEntry) (s : State) : (modBays f g s).events = s.events := rfl

@[simp] theorem modBays_batch (f : Face) (g : BayEntry → BayEntry) (s : State) : (modBays f g s).batch = s.batch := rfl

@[simp] theorem modBays_stationOut (f : Face) (g : BayEntry → BayEntry) (s : State) : (modBays f g s).stationOut = s.stationOut := rfl

@[simp] theorem modBays_freeCount (f : Face) (g : BayEntry → BayEntry) (s : State) : (modBays f g s).freeCount = s.freeCount := rfl

@[simp] theorem modBays_pending (f : Face) (g : BayEntry → BayEntry) (s : State) : (modBays f g s).pending = s.pending := rfl

@[simp] theorem modBays_face (f : Face) (g : BayEntry → BayEntry) (s : State) :
    (modBays f g s).face f = { s.face f with bays := (s.face f).bays.map g } := by
  cases f <;> rfl

@[simp] theorem modBays_other (f : Face) (g : BayEntry → BayEntry) (s : State) :
    (modBays f g s).face (otherFace f) = s.face (otherFace f) := by
  cases f <;> rfl

@[simp] theorem modBays_cfg (f h : Face) (g : BayEntry → BayEntry) (s : State) : (modBays f g s).cfg h = s.cfg h := rfl

@[simp] theorem modBays_params (f h : Face) (g : BayEntry → BayEntry) (s : State) : (modBays f g s).params h = s.params h := rfl

/-! ### modStore -/

@[simp] theorem modStore_time (g : Store → Store) (s : State) : (modStore g s).time = s.time := rfl

@[simp] theorem modStore_fire (g : Store → Store) (s : State) : (modStore g s).fire = s.fire := rfl

@[simp] theorem modStore_serving (g : Store → Store) (s : State) : (modStore g s).serving = s.serving := rfl

@[simp] theorem modStore_waitingFor (g : Store → Store) (s : State) : (modStore g s).waitingFor = s.waitingFor := rfl

@[simp] theorem modStore_receiver (g : Store → Store) (s : State) : (modStore g s).receiver = s.receiver := rfl

@[simp] theorem modStore_rx (g : Store → Store) (s : State) : (modStore g s).rx = s.rx := rfl

@[simp] theorem modStore_dropped (g : Store → Store) (s : State) : (modStore g s).dropped = s.dropped := rfl

@[simp] theorem modStore_overrun (g : Store → Store) (s : State) : (modStore g s).overrun = s.overrun := rfl

@[simp] theorem modStore_discards (g : Store → Store) (s : State) : (modStore g s).discards = s.discards := rfl

@[simp] theorem modStore_events (g : Store → Store) (s : State) : (modStore g s).events = s.events := rfl

@[simp] theorem modStore_batch (g : Store → Store) (s : State) : (modStore g s).batch = s.batch := rfl

@[simp] theorem modStore_stationOut (g : Store → Store) (s : State) : (modStore g s).stationOut = s.stationOut := rfl

@[simp] theorem modStore_freeCount (g : Store → Store) (s : State) : (modStore g s).freeCount = s.freeCount := rfl

@[simp] theorem modStore_pending (g : Store → Store) (s : State) : (modStore g s).pending = s.pending := rfl

@[simp] theorem modStore_store (g : Store → Store) (s : State) : (modStore g s).store = g s.store := rfl

@[simp] theorem modStore_face (g : Store → Store) (f : Face) (s : State) : (modStore g s).face f = s.face f := rfl

/-! ### The face state -/

/-- The face state is an item of the Face Record. -/
theorem State.stateOf_eq (s : State) (f : Face) : s.stateOf f = (s.face f).seq.state := rfl

@[simp] theorem modBerth_stateOf (f h : Face) (g : Berth → Berth) (s : State) : (modBerth f g s).stateOf h = s.stateOf h := by
  cases f <;> cases h <;> rfl

@[simp] theorem modMeas_stateOf (f h : Face) (g : Measurement → Measurement) (s : State) : (modMeas f g s).stateOf h = s.stateOf h := by
  cases f <;> cases h <;> rfl

@[simp] theorem modBus_stateOf (f h : Face) (g : Bus → Bus) (s : State) : (modBus f g s).stateOf h = s.stateOf h := by
  cases f <;> cases h <;> rfl

@[simp] theorem modSensing_stateOf (f h : Face) (g : Sensing → Sensing) (s : State) : (modSensing f g s).stateOf h = s.stateOf h := by
  cases f <;> cases h <;> rfl

@[simp] theorem modRelease_stateOf (f h : Face) (g : Release → Release) (s : State) : (modRelease f g s).stateOf h = s.stateOf h := by
  cases f <;> cases h <;> rfl

@[simp] theorem modFault_stateOf (f h : Face) (g : FaultUnit → FaultUnit) (s : State) : (modFault f g s).stateOf h = s.stateOf h := by
  cases f <;> cases h <;> rfl

@[simp] theorem modBay_stateOf (f h : Face) (n : Nat) (g : BayEntry → BayEntry) (s : State) : (modBay f n g s).stateOf h = s.stateOf h := by
  cases f <;> cases h <;> rfl

@[simp] theorem modBays_stateOf (f h : Face) (g : BayEntry → BayEntry) (s : State) : (modBays f g s).stateOf h = s.stateOf h := by
  cases f <;> cases h <;> rfl

/-! ### Events -/

@[simp] theorem post_time (k : EventKind) (f : Option Face) (n : Option Nat) (ds : List Nat) (s : State) :
    (post k f n ds s).time = s.time := by
  unfold post; split <;> rfl

@[simp] theorem post_store (k : EventKind) (f : Option Face) (n : Option Nat) (ds : List Nat) (s : State) :
    (post k f n ds s).store = s.store := by
  unfold post; split <;> rfl

@[simp] theorem post_fire (k : EventKind) (f : Option Face) (n : Option Nat) (ds : List Nat) (s : State) :
    (post k f n ds s).fire = s.fire := by
  unfold post; split <;> rfl

@[simp] theorem post_serving (k : EventKind) (f : Option Face) (n : Option Nat) (ds : List Nat) (s : State) :
    (post k f n ds s).serving = s.serving := by
  unfold post; split <;> rfl

@[simp] theorem post_waitingFor (k : EventKind) (f : Option Face) (n : Option Nat) (ds : List Nat) (s : State) :
    (post k f n ds s).waitingFor = s.waitingFor := by
  unfold post; split <;> rfl

@[simp] theorem post_receiver (k : EventKind) (f : Option Face) (n : Option Nat) (ds : List Nat) (s : State) :
    (post k f n ds s).receiver = s.receiver := by
  unfold post; split <;> rfl

@[simp] theorem post_rx (k : EventKind) (f : Option Face) (n : Option Nat) (ds : List Nat) (s : State) :
    (post k f n ds s).rx = s.rx := by
  unfold post; split <;> rfl

@[simp] theorem post_dropped (k : EventKind) (f : Option Face) (n : Option Nat) (ds : List Nat) (s : State) :
    (post k f n ds s).dropped = s.dropped := by
  unfold post; split <;> rfl

@[simp] theorem post_discards (k : EventKind) (f : Option Face) (n : Option Nat) (ds : List Nat) (s : State) :
    (post k f n ds s).discards = s.discards := by
  unfold post; split <;> rfl

@[simp] theorem post_batch (k : EventKind) (f : Option Face) (n : Option Nat) (ds : List Nat) (s : State) :
    (post k f n ds s).batch = s.batch := by
  unfold post; split <;> rfl

@[simp] theorem post_stationOut (k : EventKind) (f : Option Face) (n : Option Nat) (ds : List Nat) (s : State) :
    (post k f n ds s).stationOut = s.stationOut := by
  unfold post; split <;> rfl

@[simp] theorem post_freeCount (k : EventKind) (f : Option Face) (n : Option Nat) (ds : List Nat) (s : State) :
    (post k f n ds s).freeCount = s.freeCount := by
  unfold post; split <;> rfl

@[simp] theorem post_pending (k : EventKind) (f : Option Face) (n : Option Nat) (ds : List Nat) (s : State) :
    (post k f n ds s).pending = s.pending := by
  unfold post; split <;> rfl

@[simp] theorem post_faces (k : EventKind) (f : Option Face) (n : Option Nat) (ds : List Nat) (s : State) :
    (post k f n ds s).faces = s.faces := by
  unfold post; split <;> rfl

@[simp] theorem post_face (k : EventKind) (f : Option Face) (n : Option Nat) (ds : List Nat) (s : State)
    (g : Face) : (post k f n ds s).face g = s.face g := by
  unfold post; split <;> rfl

@[simp] theorem post_stateOf (k : EventKind) (f : Option Face) (n : Option Nat) (ds : List Nat) (s : State)
    (g : Face) : (post k f n ds s).stateOf g = s.stateOf g := by
  unfold post; split <;> rfl

@[simp] theorem post_params (k : EventKind) (f : Option Face) (n : Option Nat) (ds : List Nat) (s : State)
    (g : Face) : (post k f n ds s).params g = s.params g := by
  unfold post; split <;> rfl

/-- A queue with room takes the record at its end (R168). -/
theorem post_events_room {s : State} (h : s.events.length < Config.queueSize) (k : EventKind)
    (f : Option Face) (n : Option Nat) (ds : List Nat) :
    (post k f n ds s).events = s.events ++ [⟨k, f, n, s.time, ds⟩] := by
  simp [post, h]

/-- A full queue takes no record, and OVERRUN is set (R168). -/
theorem post_full {s : State} (h : ¬ s.events.length < Config.queueSize) (k : EventKind)
    (f : Option Face) (n : Option Nat) (ds : List Nat) : post k f n ds s = { s with overrun := true } := by
  simp [post, h]

end Sys2Proof.Machine
end

