-- ==== Sys2Proof/Laws/Work.lean ====
section
/-!
SUPPORT. The frame of every operation that works at one face: what it leaves as it was, said once for
each operation (`Safety.Within`), from the updates up to the handling of reports and beacons.
-/

-- One proof after another: side by side their threads' stacks fill the checker's memory.
set_option Elab.async false

namespace Sys2Proof.Safety

open Sys2Proof.Machine

theorem Within.then {f : Face} {s t u : State} (h : Within f s t) (k : Within f t u) : Within f s u where
  time := k.time.trans h.time
  store := k.store.trans h.store
  fire := k.fire.trans h.fire
  receiver := k.receiver.trans h.receiver
  rx := k.rx.trans h.rx
  dropped := k.dropped.trans h.dropped
  discards := k.discards.trans h.discards
  batch := k.batch.trans h.batch
  stationOut := k.stationOut.trans h.stationOut
  freeCount := k.freeCount.trans h.freeCount
  pending := k.pending.trans h.pending
  other := by rw [← h.other, ← k.other]
  enable := k.enable.trans h.enable
  loop := k.loop.trans h.loop
  permit := k.permit.trans h.permit
  mask := k.mask.trans h.mask
  hold := fun x => h.hold (k.hold x)
  list := fun x => k.list (h.list x)
  events := h.events.trans k.events
  bounded := fun x => k.bounded (h.bounded x)
  overrun := fun x => k.overrun (h.overrun x)

end Sys2Proof.Safety

namespace Sys2Proof.Machine

open Sys2Proof.Safety

/-! ### Composition -/

theorem within_refl (f : Face) (s : State) : Within f s s :=
  ⟨rfl, rfl, rfl, rfl, rfl, rfl, rfl, rfl, rfl, rfl, rfl, rfl, rfl, rfl, rfl, rfl, id, id, List.prefix_rfl, id, id⟩

theorem within_ite {f : Face} {s a b : State} {c : Prop} [Decidable c] (h : Within f s a) (k : Within f s b) :
    Within f s (if c then a else b) := by
  split <;> assumption

/-- Work that one case goes on with. -/
theorem within_more {f : Face} {s a b : State} {c : Prop} [Decidable c] (h : Within f s a) (k : Within f a b) :
    Within f s (if c then b else a) :=
  within_ite (h.then k) h

/-- Work over a list, piece by piece. -/
theorem within_foldl {α : Type} {f : Face} {g : State → α → State} (h : ∀ s x, Within f s (g s x))
    (xs : List α) (s : State) : Within f s (xs.foldl g s) := by
  induction xs generalizing s with
  | nil => exact within_refl f s
  | cons x xs ih => exact (h s x).then (ih _)

/-! ### Updates -/

theorem within_modFace (f : Face) (g : FaceBlock → FaceBlock) (s : State)
    (he : (g (s.face f)).enable = (s.face f).enable) (hl : (g (s.face f)).loop = (s.face f).loop)
    (hp : (g (s.face f)).permit = (s.face f).permit) (hm : (g (s.face f)).fault.mask = (s.face f).fault.mask)
    (hh : (g (s.face f)).seq.hold.isSome = true → (s.face f).seq.hold.isSome = true)
    (hd : ((s.stateOf f).mayEnable = false → (s.face f).berth.doorList = []) →
      (g (s.face f)).seq.state.mayEnable = false → (g (s.face f)).berth.doorList = []) :
    Within f s (modFace f g s) :=
  ⟨rfl, rfl, rfl, rfl, rfl, rfl, rfl, rfl, rfl, rfl, rfl, by simp, by simpa using he, by simpa using hl,
    by simpa using hp, by simpa using hm, by simpa using hh, by simpa [State.stateOf_eq] using hd,
    List.prefix_rfl, id, id⟩

theorem within_modSeq (f : Face) (g : FaceRecord → FaceRecord) (s : State)
    (h : (g (s.face f).seq).hold.isSome = true → (s.face f).seq.hold.isSome = true)
    (k : (g (s.face f).seq).state = (s.face f).seq.state := by rfl) :
    Within f s (modSeq f g s) :=
  within_modFace f _ s rfl rfl rfl rfl h (by rw [State.stateOf_eq, k]; exact id)

theorem within_modBerth (f : Face) (g : Berth → Berth) (s : State)
    (h : (g (s.face f).berth).doorList = (s.face f).berth.doorList ∨ (g (s.face f).berth).doorList = [] := by
      first | exact .inl rfl | exact .inr rfl) :
    Within f s (modBerth f g s) :=
  within_modFace f _ s rfl rfl rfl rfl id (fun x y => by
    rcases h with h | h <;> dsimp only <;> rw [h]
    exact x y)

/-- The door enable list may be written in the states in which it may stand (R30). -/
theorem within_writeList (f : Face) (g : Berth → Berth) (s : State) (h : (s.stateOf f).mayEnable = true) :
    Within f s (modBerth f g s) :=
  within_modFace f _ s rfl rfl rfl rfl id (fun _ y => by
    rw [State.stateOf_eq] at h; rw [h] at y; exact absurd y (by decide))

theorem within_modBus (f : Face) (g : Bus → Bus) (s : State) : Within f s (modBus f g s) :=
  within_modFace f _ s rfl rfl rfl rfl id id

theorem within_modSensing (f : Face) (g : Sensing → Sensing) (s : State) : Within f s (modSensing f g s) :=
  within_modFace f _ s rfl rfl rfl rfl id id

theorem within_modRelease (f : Face) (g : Release → Release) (s : State) : Within f s (modRelease f g s) :=
  within_modFace f _ s rfl rfl rfl rfl id id

theorem within_modFault (f : Face) (g : FaultUnit → FaultUnit) (s : State)
    (h : (g (s.face f).fault).mask = (s.face f).fault.mask) : Within f s (modFault f g s) :=
  within_modFace f _ s rfl rfl rfl h id id

theorem within_modBay (f : Face) (n : Nat) (g : BayEntry → BayEntry) (s : State) :
    Within f s (modBay f n g s) :=
  within_modFace f _ s rfl rfl rfl rfl id id

theorem within_modBays (f : Face) (g : BayEntry → BayEntry) (s : State) : Within f s (modBays f g s) :=
  within_modFace f _ s rfl rfl rfl rfl id id

/-- Either face's Measurement Record may be written. -/
theorem within_modMeas (f h : Face) (g : Measurement → Measurement) (s : State) :
    Within f s (modMeas h g s) := by
  refine ⟨rfl, rfl, rfl, rfl, rfl, rfl, rfl, rfl, rfl, rfl, rfl, ?_, ?_, ?_, ?_, ?_, ?_, ?_, List.prefix_rfl, id, id⟩ <;>
    cases f <;> cases h <;> first | rfl | exact id

/-- The Alignment Unit's own items may be written. -/
theorem within_unit (f : Face) (s : State) (x y : Option Face) :
    Within f s { s with serving := x, waitingFor := y } :=
  ⟨rfl, rfl, rfl, rfl, rfl, rfl, rfl, rfl, rfl, rfl, rfl, rfl, rfl, rfl, rfl, rfl, id, id, List.prefix_rfl, id, id⟩

theorem within_post (f : Face) (k : EventKind) (x : Option Face) (n : Option Nat) (ds : List Nat) (s : State) :
    Within f s (post k x n ds s) := by
  unfold post
  split
  · rename_i h
    exact ⟨rfl, rfl, rfl, rfl, rfl, rfl, rfl, rfl, rfl, rfl, rfl, rfl, rfl, rfl, rfl, rfl, id, id,
      List.prefix_append _ _, fun _ => by simpa using h, id⟩
  · exact ⟨rfl, rfl, rfl, rfl, rfl, rfl, rfl, rfl, rfl, rfl, rfl, rfl, rfl, rfl, rfl, rfl, id, id,
      List.prefix_rfl, id, fun _ => rfl⟩

/-! ### Ops.lean -/

theorem within_clearClasses (f : Face) (s : State) : Within f s (clearClasses f s) := within_modBays f _ s

theorem within_makeStale (f : Face) (s : State) : Within f s (makeStale f s) := by
  unfold makeStale
  refine within_ite ?_ (within_refl f s)
  exact within_ite
    (((within_modMeas f f _ s).then (within_clearClasses f _)).then (within_modBerth f _ _))
    ((within_modMeas f f _ s).then (within_clearClasses f _))

theorem within_setState (f : Face) (st : FaceState) (s : State) : Within f s (setState f st s) := by
  refine within_modFace f _ s rfl rfl rfl rfl ?_ ?_
  · dsimp only
    split <;> simp
  · cases st <;> simp [FaceState.mayEnable]

/-- The state a face has entered. -/
@[simp] theorem setState_stateOf (f : Face) (st : FaceState) (s : State) : (setState f st s).stateOf f = st := by
  rw [State.stateOf_eq, setState, modFace_face]
  dsimp only
  split <;> rfl

/-! ### Flags.lean -/

theorem within_setFlag (f : Face) (fl : Flag) (n : Option Nat) (s : State) : Within f s (setFlag f fl n s) := by
  unfold setFlag
  split
  · exact within_refl f s
  · exact (within_modFault f _ s (by rfl)).then (within_post f _ _ _ _ _)

theorem within_capture (f : Face) (m : Bool) (c : Flag → Bool) (s : State) : Within f s (capture f m c s) := by
  unfold capture
  split
  · exact within_refl f s
  · exact within_modFace f _ s rfl rfl rfl rfl id id

/-! ### Bus.lean -/

theorem within_place (f : Face) (x : DispatchEntry) (s : State) : Within f s (place f x s) := within_modBus f _ s

theorem within_issue (f : Face) (n : Nat) (o : BayOrder) (s : State) : Within f s (issue f n o s) := by
  unfold issue
  split
  · exact within_refl f s
  · exact within_ite ((within_modBay f n _ s).then (within_place f _ _)) (within_modBay f n _ s)

theorem within_issueAll (f : Face) (o : BayOrder) (ns : List Nat) (s : State) : Within f s (issueAll f o ns s) :=
  within_foldl (fun s n => within_issue f n o s) ns s

@[simp] theorem issue_stateOf (f g : Face) (n : Nat) (o : BayOrder) (s : State) :
    (issue f n o s).stateOf g = s.stateOf g := by
  unfold issue place
  split
  · rfl
  · split <;> simp

@[simp] theorem issueAll_stateOf (f g : Face) (o : BayOrder) (ns : List Nat) (s : State) :
    (issueAll f o ns s).stateOf g = s.stateOf g := by
  unfold issueAll
  induction ns generalizing s with
  | nil => rfl
  | cons n ns ih => rw [List.foldl_cons, ih, issue_stateOf]

theorem within_groupWarn (f : Face) (on : Bool) (s : State) : Within f s (groupWarn f on s) :=
  (within_place f _ s).then (within_modSeq f _ _ (by exact fun h => h))

theorem within_cutWarning (f : Face) (s : State) : Within f s (cutWarning f s) :=
  within_ite (within_groupWarn f false s) (within_refl f s)

theorem within_groupClose (f : Face) (s : State) : Within f s (groupClose f s) :=
  ((within_modBays f _ s).then (within_modBus f _ _)).then (within_place f _ _)

theorem within_dropCloses (f : Face) (s : State) : Within f s (dropCloses f s) := by
  unfold dropCloses
  dsimp only
  exact (within_modBays f _ s).then (within_modBus f _ _)

theorem within_moveUp (f : Face) (n : Nat) (s : State) : Within f s (moveUp f n s) := by
  unfold moveUp
  split
  · exact within_refl f s
  · exact (within_modBay f n _ s).then (within_place f _ _)

theorem within_placeFollowUp (f : Face) (n : Nat) (s : State) : Within f s (placeFollowUp f n s) :=
  within_ite (within_refl f s) (within_place f _ s)

theorem within_send (f : Face) (addr mask order : Nat) (d : Option Bool) (s : State) :
    Within f s (send f addr mask order d s) :=
  within_modBus f _ s

theorem within_start (f : Face) (k : TransKind) (r : Bool) (s : State) : Within f s (start f k r s) := by
  unfold start
  dsimp only
  exact (within_send f _ _ _ _ s).then (within_modBus f _ _)

theorem within_ownTransaction (f : Face) (s : State) : Within f s (ownTransaction f s) := by
  unfold ownTransaction
  dsimp only
  split
  · exact within_start f _ _ s
  · exact within_start f _ _ s
  · exact within_start f _ _ s
  · refine within_ite ((within_modBus f _ s).then (within_start f _ _ _)) ?_
    split
    · exact within_refl f s
    · exact within_start f _ _ s

theorem within_serveGap (f : Face) (xs : List DispatchEntry) (s : State) : Within f s (serveGap f xs s) := by
  cases xs with
  | nil => exact (within_modBus f _ s).then (within_ownTransaction f _)
  | cons x xs => exact (within_modBus f _ s).then (within_start f _ _ _)

theorem within_endTurn (f : Face) (s : State) : Within f s (endTurn f s) := within_modBus f _ s

theorem within_busContinue (f : Face) (s : State) : Within f s (busContinue f s) :=
  within_ite (within_serveGap f _ s) (within_endTurn f s)

theorem within_endTransaction (f : Face) (s : State) : Within f s (endTransaction f s) := within_modBus f _ s

theorem within_beginTurn (f : Face) (s : State) : Within f s (beginTurn f s) :=
  within_ite (within_refl f s) ((within_modBus f _ s).then (within_serveGap f _ _))

/-! ### Berth.lean -/

theorem within_select (f : Face) (code : Nat) (train : BitVec 16) (s : State) :
    Within f s (select f code train s) :=
  within_modBerth f _ s

theorem within_postMismatch (f : Face) (code : Nat) (train : BitVec 16) (s : State) :
    Within f s (postMismatch f code train s) := by
  unfold postMismatch
  split
  · exact within_refl f s
  · exact within_ite (within_post f _ _ _ _ s) (within_refl f s)

theorem within_promote (f : Face) (s : State) : Within f s (promote f s) :=
  within_modBerth f _ s (by split <;> exact .inl rfl)

/-! ### Sequencer.lean -/

theorem within_turnUnit (f : Face) (s : State) : Within f s (turnUnit s) := by
  unfold turnUnit
  split
  · exact within_unit f s _ _
  · exact (within_unit f s _ _).then (within_modMeas f _ _ _)

theorem within_abandon (f : Face) (c : AbandonCause) (s : State) : Within f s (abandon f c s) := by
  unfold abandon
  refine within_ite ?_ (within_refl f s)
  refine within_ite ((within_modMeas f f _ s).then (within_turnUnit f _)) (within_ite ?_ (within_modMeas f f _ s))
  exact (within_modMeas f f _ s).then (within_unit f _ _ _)

theorem within_lapse (f : Face) (s : State) : Within f s (lapse f s) := by
  unfold lapse
  split
  · exact within_refl f s
  · exact (within_modSeq f _ s (by exact fun h => h)).then (within_post f _ _ _ _ _)

theorem within_endProcedure (f : Face) (s : State) : Within f s (endProcedure f s) := within_modSeq f _ s (by exact fun h => h)

theorem within_clearHold (f : Face) (s : State) : Within f s (clearHold f s) :=
  within_modSeq f _ s (fun h => by simp at h)

theorem within_stopSequence (f : Face) (c : AbandonCause) (s : State) : Within f s (stopSequence f c s) := by
  unfold stopSequence
  dsimp only
  exact (((((within_lapse f s).then (within_clearHold f _)).then (within_modSeq f _ _ (by exact fun h => h))).then
    (within_endProcedure f _)).then (within_cutWarning f _)).then (within_abandon f c _)

theorem within_enterHeld (f : Face) (s : State) : Within f s (enterHeld f s) :=
  (within_stopSequence f _ s).then (within_setState f _ _)

theorem within_summarySet (f : Face) (s : State) : Within f s (summarySet f s) :=
  within_ite (within_enterHeld f s) (within_refl f s)

theorem within_raise (f : Face) (cs : List (Flag × Option Nat)) (s : State) : Within f s (raise f cs s) := by
  unfold raise
  have h := within_foldl (f := f) (fun s (c : Flag × Option Nat) => within_setFlag f c.1 c.2 s) cs s
  refine within_ite (within_refl f s) ?_
  dsimp only
  exact within_ite ((h.then (within_capture f _ _ _)).then (within_summarySet f _)) h

theorem within_raiseGaps (f : Face) (s : State) : Within f s (raiseGaps f s) := within_raise f _ s

theorem within_enterEmpty (f : Face) (s : State) : Within f s (enterEmpty f s) := by
  unfold enterEmpty
  dsimp only
  refine Within.then ?_ (within_raiseGaps f _)
  have h : Within f s
      (if s.stateOf f = .arriving ∨ s.stateOf f = .measuring ∨ s.stateOf f = .berthed then lapse f s else s) :=
    within_ite (within_lapse f s) (within_refl f s)
  have h := (h.then (within_abandon f .vacant _)).then (within_setState f .empty _)
  have h := (h.then (within_modSeq f (fun r => { r with hold := none, grant := [] }) _ (fun h => by simp at h))).then
    (within_makeStale f _)
  have h := h.then
    (within_modBerth f (fun b => { b with active := none, consist := none, lossReported := false }) _)
  exact within_ite (h.then (within_post f _ _ _ _ _)) h

theorem within_enterArriving (f : Face) (s : State) : Within f s (enterArriving f s) := by
  unfold enterArriving
  dsimp only
  exact ((((((within_abandon f _ s).then (within_setState f _ _)).then (within_promote f _)).then
    (within_modSeq f _ _ (by exact fun h => h))).then (within_modBays f _ _)).then (within_modSensing f _ _)).then
    (within_makeStale f _)

theorem within_enterSurvey (f : Face) (s : State) : Within f s (enterSurvey f s) := by
  unfold enterSurvey
  dsimp only
  exact (((((within_modBays f _ s).then (within_endProcedure f _)).then (within_modBus f _ _)).then
    (within_modRelease f _ _)).then (within_setState f _ _)).then (within_groupWarn f _ _)

theorem within_modEntry (f : Face) (n : Nat) (g : ClosingEntry → ClosingEntry) (s : State) :
    Within f s (modEntry f n g s) :=
  within_modSeq f _ s (by exact fun h => h)

theorem within_orderClose (f : Face) (n : Nat) (s : State) : Within f s (orderClose f n s) :=
  (within_issue f n _ s).then (within_modEntry f n _ _)

theorem within_pauseBay (f : Face) (n : Nat) (s : State) : Within f s (pauseBay f n s) := within_modEntry f n _ s

theorem within_raised {f : Face} {s : State} {x : Raising} (h : Within f s x.1) : Within f s (raised f x) :=
  h.then (within_raise f _ _)

theorem within_countRetry (f : Face) (n : Nat) (s : State) : Within f s (countRetry f n s).1 := by
  unfold countRetry
  have h := within_modEntry f n (fun e => { e with retries := e.retries + 1 }) s
  dsimp only
  split
  · exact h
  split
  · split
    · exact h.then (within_post f _ _ _ _ _)
    · exact h
  · exact (h.then (within_modEntry f n _ _)).then (within_post f _ _ _ _ _)

theorem within_gapTrip (f : Face) (n : Nat) (s : State) : Within f s (gapTrip f n s).1 := by
  unfold gapTrip
  have h : Within f s (if s.tripOpens f n then issue f n .openLeaf s else s) :=
    within_ite (within_issue f n _ s) (within_refl f s)
  exact (h.then (within_pauseBay f n _)).then (within_countRetry f n _)

theorem within_closeOrTrip (f : Face) (n : Nat) (s : State) : Within f s (closeOrTrip f n s).1 := by
  unfold closeOrTrip
  split
  · exact within_gapTrip f n s
  · exact within_orderClose f n s

theorem within_enterClosedLocked (f : Face) (s : State) : Within f s (enterClosedLocked f s) := by
  unfold enterClosedLocked
  dsimp only
  refine within_more (Within.then (Within.then ?_ (within_post f _ _ _ _ _)) (within_raiseGaps f _))
    (within_enterEmpty f _)
  exact (within_endProcedure f s).then (within_setState f _ _)

theorem within_finishClosing (f : Face) (s : State) : Within f s (finishClosing f s) := by
  unfold finishClosing
  refine within_ite ?_ (within_refl f s)
  split
  · exact within_refl f s
  · exact within_endProcedure f s
  · exact within_enterSurvey f s
  · exact within_enterClosedLocked f s

theorem within_startWarned (f : Face) (k : ClosingKind) (s : State) : Within f s (startWarned f k s) :=
  (within_modSeq f _ s (by exact id)).then (within_groupWarn f true _)

theorem within_startAtOnce (f : Face) (k : ClosingKind) (s : State) : Within f s (startAtOnce f k s) :=
  within_modSeq f _ s (by exact fun h => h)

theorem within_enterClosing (f : Face) (d : Nat) (s : State) : Within f s (enterClosing f d s) :=
  ((((within_clearHold f s).then (within_setState f _ _)).then (within_post f _ _ _ _ _)).then
    (within_startWarned f _ _)).then (within_finishClosing f _)

theorem within_startHeldClose (f : Face) (s : State) : Within f s (startHeldClose f s) :=
  ((within_startAtOnce f _ s).then (within_issueAll f _ _ _)).then (within_finishClosing f _)

theorem within_startRecovery (f : Face) (s : State) : Within f s (startRecovery f s) :=
  ((within_endProcedure f s).then (within_startWarned f _ _)).then (within_finishClosing f _)

theorem within_trainMovement (f : Face) (s : State) : Within f s (trainMovement f s) := by
  unfold trainMovement
  dsimp only
  refine Within.then (Within.then ?_ (within_raise f _ _)) (within_finishClosing f _)
  refine Within.then (Within.then (Within.then ?_ (within_cutWarning f _)) (within_groupClose f _))
    (within_startAtOnce f _ _)
  exact ((((within_post f _ _ _ _ s).then (within_clearHold f _)).then (within_endProcedure f _)).then
    (within_modSeq f _ _ (by exact fun h => h))).then (within_setState f _ _)

theorem within_giveVacant (f : Face) (s : State) : Within f s (giveVacant f s) := by
  unfold giveVacant
  split
  iterate 4 exact within_enterEmpty f s
  iterate 2 exact (within_makeStale f s).then (within_trainMovement f _)
  exact within_refl f s

theorem within_vacantAgain (f : Face) (s : State) : Within f s (vacantAgain f s) :=
  within_ite (within_giveVacant f s) (within_refl f s)

theorem within_enterOpen (f : Face) (s : State) : Within f s (enterOpen f s) := by
  unfold enterOpen
  dsimp only
  refine Within.then (Within.then ?_ (within_post f _ _ _ _ _)) (within_vacantAgain f _)
  exact (within_setState f _ s).then (within_modSeq f _ _ (by simp))

theorem within_checkOpened (f : Face) (s : State) : Within f s (checkOpened f s) :=
  within_ite (within_enterOpen f s) (within_refl f s)

theorem within_enterOpening (f : Face) (id : Byte) (s : State) : Within f s (enterOpening f id s) := by
  unfold enterOpening
  dsimp only
  refine Within.then (Within.then (Within.then ?_ (within_modSeq f _ _ (by exact fun h => h)))
    (within_vacantAgain f _)) (within_checkOpened f _)
  refine Within.then (Within.then ?_ (within_writeList f _ _ ?_)) (within_issueAll f _ _ _)
  rotate_left
  · rw [post_stateOf, State.stateOf_eq, modSeq_face]
    exact congrArg FaceState.mayEnable (setState_stateOf f .opening s)
  exact ((within_setState f _ s).then (within_modSeq f _ _ (by exact fun h => h))).then
    (within_post f _ _ _ _ _)

theorem within_acceptanceTest (f : Face) (s : State) : Within f s (acceptanceTest f s) := by
  unfold acceptanceTest
  split
  · exact within_refl f s
  · exact within_ite (within_enterOpening f _ s) (within_refl f s)

theorem within_enterBerthed (f : Face) (v : Verdict) (s : State) : Within f s (enterBerthed f v s) := by
  unfold enterBerthed
  dsimp only
  refine Within.then (Within.then ?_ (within_acceptanceTest f _)) (within_vacantAgain f _)
  have h : ∀ x, Within f s (post .berthed (some f) none x (setState f .berthed s)) := fun x =>
    (within_setState f .berthed s).then (within_post f _ _ _ _ _)
  exact within_ite (h _) ((h _).then (within_raise f _ _))

theorem within_complete (f : Face) (v : Verdict) (m : Measurement) (s : State) :
    Within f s (complete f v m s) := by
  unfold complete
  dsimp only
  refine within_more (Within.then (Within.then ?_ (within_modSeq f _ _ ?_)) (within_enterBerthed f v _))
    (within_turnUnit f _)
  · exact (within_modMeas f f _ s).then (within_modBays f _ _)
  · exact fun h => h

theorem within_requestUnit (f : Face) (s : State) : Within f s (requestUnit f s) := by
  unfold requestUnit
  split
  · exact within_ite (within_modMeas f f _ s) (within_unit f s _ _)
  · exact (within_unit f s _ _).then (within_modMeas f f _ _)

theorem within_enterMeasuring (f : Face) (s : State) : Within f s (enterMeasuring f s) := by
  unfold enterMeasuring
  dsimp only
  refine Within.then ?_ (within_vacantAgain f _)
  have h := ((within_setState f .measuring s).then
    (within_modMeas f f (fun _ => s.newRecord f) _)).then (within_clearClasses f _)
  exact within_ite (h.then (within_complete f _ _ _)) (h.then (within_requestUnit f _))

theorem within_takeSample (f : Face) (ss : List Strength) (s : State) : Within f s (takeSample f ss s) := by
  unfold takeSample
  dsimp only
  exact within_ite (within_refl f s) (within_ite (within_complete f _ _ s)
    (within_ite (within_complete f _ _ s) (within_modMeas f f _ s)))

theorem within_surveyDone (f : Face) (row : Nat) (s : State) : Within f s (surveyDone f row s) :=
  within_post f _ _ _ _ s

theorem within_surveyTrain (f : Face) (s : State) : Within f s (surveyTrain f s) := by
  unfold surveyTrain
  split
  · refine within_ite ?_ ?_
    · exact ((((within_enterArriving f s).then (within_select f _ _ _)).then (within_postMismatch f _ _ _)).then
        (within_vacantAgain f _)).then (within_surveyDone f _ _)
    · exact (((within_select f _ _ s).then (within_postMismatch f _ _ _)).then
        (within_enterMeasuring f _)).then (within_surveyDone f _ _)
  · exact (within_enterEmpty f s).then (within_surveyDone f _ _)

theorem within_surveySummary (f : Face) (s : State) : Within f s (surveySummary f s) :=
  within_ite ((within_enterHeld f s).then (within_surveyDone f _ _)) (within_surveyTrain f s)

theorem within_surveySilent (f : Face) (s : State) : Within f s (surveySilent f s) := by
  unfold surveySilent
  dsimp only
  refine within_ite (within_surveySummary f s) (within_ite ?_ ?_)
  · exact (within_raise f _ s).then (within_surveySummary f _)
  · exact ((within_raise f _ s).then (within_enterHeld f _)).then (within_surveyDone f _ _)

theorem within_surveyDecision (f : Face) (s : State) : Within f s (surveyDecision f s) := by
  unfold surveyDecision
  dsimp only
  refine within_ite (within_surveySilent f s) (within_ite ?_ ?_)
  · exact (within_raise f _ s).then (within_surveySilent f _)
  · exact ((within_raise f _ s).then (within_enterHeld f _)).then (within_surveyDone f _ _)

theorem within_surveyPolled (f : Face) (n : Nat) (s : State) : Within f s (surveyPolled f n s) :=
  within_ite (within_ite ((within_modBay f n _ s).then (within_surveyDecision f _)) (within_modBay f n _ s))
    (within_refl f s)

theorem within_satisfied (f : Face) (s : State) : Within f s (satisfied f s) :=
  within_ite (within_enterClosing f 1 s) (within_modSeq f _ s (by simp))

theorem within_trueExpiry (f : Face) (s : State) : Within f s (trueExpiry f s) :=
  within_ite (within_satisfied f s) ((within_modSeq f _ s (by simp)).then (within_post f _ _ _ _ _))

theorem within_dwellExpired (f : Face) (s : State) : Within f s (dwellExpired f s) :=
  within_ite ((within_modSeq f _ s (by exact fun h => h)).then (within_post f _ _ _ _ _)) (within_trueExpiry f s)

/-! ### Operations that keep the face state -/

/-- A change of the Face Record that keeps its state. -/
theorem modSeq_stateOf {f : Face} {g : FaceRecord → FaceRecord} {s : State}
    (h : (g (s.face f).seq).state = (s.face f).seq.state) (k : Face) :
    (modSeq f g s).stateOf k = s.stateOf k := by
  by_cases e : k = f
  · subst e
    simpa [State.stateOf_eq] using h
  · rw [eq_otherFace e]
    simp [State.stateOf_eq]

@[simp] theorem lapse_stateOf (f g : Face) (s : State) : (lapse f s).stateOf g = s.stateOf g := by
  unfold lapse
  split
  · rfl
  · rw [post_stateOf]; exact modSeq_stateOf rfl g

@[simp] theorem clearHold_stateOf (f g : Face) (s : State) : (clearHold f s).stateOf g = s.stateOf g :=
  modSeq_stateOf rfl g

@[simp] theorem endProcedure_stateOf (f g : Face) (s : State) : (endProcedure f s).stateOf g = s.stateOf g :=
  modSeq_stateOf rfl g

@[simp] theorem groupWarn_stateOf (f g : Face) (on : Bool) (s : State) :
    (groupWarn f on s).stateOf g = s.stateOf g := by
  unfold groupWarn place
  rw [modSeq_stateOf (by rfl)]
  simp

@[simp] theorem cutWarning_stateOf (f g : Face) (s : State) : (cutWarning f s).stateOf g = s.stateOf g := by
  unfold cutWarning
  split <;> simp

@[simp] theorem dropCloses_stateOf (f g : Face) (s : State) : (dropCloses f s).stateOf g = s.stateOf g := by
  simp [dropCloses]

@[simp] theorem turnUnit_stateOf (g : Face) (s : State) : (turnUnit s).stateOf g = s.stateOf g := by
  unfold turnUnit
  split
  · rfl
  · rw [modMeas_stateOf]; rfl

@[simp] theorem abandon_stateOf (f g : Face) (c : AbandonCause) (s : State) :
    (abandon f c s).stateOf g = s.stateOf g := by
  unfold abandon
  dsimp only
  split
  · split
    · simp
    · split
      · cases f <;> cases g <;> rfl
      · simp
  · rfl

@[simp] theorem stopSequence_stateOf (f g : Face) (c : AbandonCause) (s : State) :
    (stopSequence f c s).stateOf g = s.stateOf g := by
  unfold stopSequence
  dsimp only
  rw [abandon_stateOf, cutWarning_stateOf, endProcedure_stateOf, modSeq_stateOf (by rfl), clearHold_stateOf,
    lapse_stateOf]

@[simp] theorem setFlag_stateOf (f g : Face) (fl : Flag) (n : Option Nat) (s : State) :
    (setFlag f fl n s).stateOf g = s.stateOf g := by
  unfold setFlag
  split <;> simp

theorem setFlags_stateOf (f g : Face) (cs : List (Flag × Option Nat)) (s : State) :
    (cs.foldl (fun s c => setFlag f c.1 c.2 s) s).stateOf g = s.stateOf g := by
  induction cs generalizing s with
  | nil => rfl
  | cons c cs ih => rw [List.foldl_cons, ih, setFlag_stateOf]

@[simp] theorem capture_stateOf (f g : Face) (m : Bool) (c : Flag → Bool) (s : State) :
    (capture f m c s).stateOf g = s.stateOf g := by
  unfold capture
  split
  · rfl
  · cases f <;> cases g <;> rfl

/-- Raising conditions moves a face only from the states of R143. -/
theorem raise_stateOf {f : Face} {s : State} (h : (s.stateOf f).summaryMoves = false)
    (cs : List (Flag × Option Nat)) (g : Face) : (raise f cs s).stateOf g = s.stateOf g := by
  unfold raise
  dsimp only
  split
  · rfl
  · split
    · unfold summarySet
      rw [capture_stateOf, setFlags_stateOf, h, if_neg (by simp), capture_stateOf, setFlags_stateOf]
    · exact setFlags_stateOf f g cs s

/-! ### Release.lean -/

theorem within_evacuate (f : Face) (front : Nat) (s : State) (h : s.stateOf f = .released) :
    Within f s (evacuate f front s) := by
  unfold evacuate
  dsimp only
  refine Within.then ((within_issueAll f _ _ s).then (within_writeList f _ _ ?_)) (within_modRelease f _ _)
  rw [issueAll_stateOf, h]; rfl

theorem within_openingPlan (f : Face) (cs : List (Cause × Option Nat)) (s : State)
    (h : s.stateOf f = .released) : Within f s (openingPlan f cs s) := by
  unfold openingPlan
  split
  · exact within_refl f s
  · exact within_ite (within_evacuate f _ s h) (within_refl f s)

@[simp] theorem openingPlan_stateOf (f g : Face) (cs : List (Cause × Option Nat)) (s : State) :
    (openingPlan f cs s).stateOf g = s.stateOf g := by
  unfold openingPlan evacuate
  split
  · rfl
  · split <;> simp

theorem within_enterReleased (f : Face) (cs : List (Cause × Option Nat)) (s : State) :
    Within f s (enterReleased f cs s) := by
  unfold enterReleased
  dsimp only
  refine Within.then (Within.then ?_ (within_raise f _ _)) (within_openingPlan f cs _ ?_)
  rotate_left
  · rw [raise_stateOf] <;> simp [FaceState.summaryMoves]
  refine Within.then (Within.then ?_ (within_dropCloses f _)) (within_modBerth f _ _)
  exact (((within_modRelease f _ s).then (within_setState f _ _)).then (within_post f _ _ _ _ _)).then
    (within_stopSequence f _ _)

@[simp] theorem enterReleased_stateOf (f : Face) (cs : List (Cause × Option Nat)) (s : State) :
    (enterReleased f cs s).stateOf f = .released := by
  unfold enterReleased
  dsimp only
  rw [openingPlan_stateOf, raise_stateOf] <;> simp [FaceState.summaryMoves]

/-- No cause appears: nothing changes. -/
@[simp] theorem appear_nil (f : Face) (s : State) : appear f [] s = s := by
  unfold appear
  cases s.stateOf f <;> rfl

theorem within_returnToHolding (f : Face) (s : State) : Within f s (returnToHolding f s) :=
  within_ite ((((within_endProcedure f s).then (within_cutWarning f _)).then (within_dropCloses f _)).then
    (within_modRelease f _ _)) (within_refl f s)

@[simp] theorem returnToHolding_stateOf (f g : Face) (s : State) :
    (returnToHolding f s).stateOf g = s.stateOf g := by
  unfold returnToHolding
  split <;> simp

@[simp] theorem furtherCause_stateOf (f g : Face) (c : Cause × Option Nat) (s : State) :
    (furtherCause f c s).stateOf g = s.stateOf g := by
  simp [furtherCause]

/-- Causes appear at a face in service: it is RELEASED (R129, R133). -/
theorem appear_stateOf {f : Face} {cs : List (Cause × Option Nat)} {s : State}
    (h : s.stateOf f ≠ .outOfService) (k : cs ≠ []) : (appear f cs s).stateOf f = .released := by
  unfold appear
  split
  · contradiction
  · rename_i h'
    have : ∀ (cs : List (Cause × Option Nat)) (s : State), s.stateOf f = .released →
        (cs.foldl (fun s c => furtherCause f c s) s).stateOf f = .released := by
      intro cs
      induction cs with
      | nil => intro s h; exact h
      | cons c cs ih => intro s h; exact ih _ (by simpa using h)
    exact this cs s h'
  · rw [if_neg (by simpa using k)]
    simp

theorem within_furtherCause (f : Face) (c : Cause × Option Nat) (s : State) (h : s.stateOf f = .released) :
    Within f s (furtherCause f c s) := by
  unfold furtherCause
  dsimp only
  refine Within.then (((within_returnToHolding f s).then (within_modRelease f _ _)).then
    (within_post f _ _ _ _ _)) (within_openingPlan f _ _ ?_)
  simpa using h

theorem within_furtherCauses (f : Face) (cs : List (Cause × Option Nat)) (s : State)
    (h : s.stateOf f = .released) : Within f s (cs.foldl (fun s c => furtherCause f c s) s) := by
  induction cs generalizing s with
  | nil => exact within_refl f s
  | cons c cs ih =>
    exact (within_furtherCause f c s h).then (ih _ (by rw [furtherCause_stateOf]; exact h))

theorem within_appear (f : Face) (cs : List (Cause × Option Nat)) (s : State) : Within f s (appear f cs s) := by
  unfold appear
  split
  · exact within_refl f s
  · rename_i h
    exact within_furtherCauses f cs s h
  · exact within_ite (within_refl f s) (within_enterReleased f cs s)

theorem within_loopGoes (f : Face) (s : State) : Within f s (loopGoes f s) :=
  within_ite (within_modRelease f _ s) (within_refl f s)

theorem within_takeHandle (f : Face) (n : Nat) (p : Bool) (s : State) : Within f s (takeHandle f n p s) := by
  unfold takeHandle
  dsimp only
  exact within_ite (within_appear f _ s)
    (within_ite ((within_modRelease f _ s).then (within_loopGoes f _)) (within_refl f s))

theorem within_loopChanged (f : Face) (s : State) : Within f s (loopChanged f s) :=
  within_ite (within_refl f s) (within_ite (within_loopGoes f s)
    (within_ite (within_refl f s) (within_appear f _ s)))

theorem within_fireChanged (f : Face) (s : State) : Within f s (fireChanged f s) :=
  within_ite (within_refl f s) (within_ite (within_ite (within_refl f s) (within_appear f _ s))
    (within_modRelease f _ s))

theorem within_trainOffered (f : Face) (s : State) : Within f s (trainOffered f s) :=
  within_ite (within_refl f s) (within_ite (within_ite (within_refl f s) (within_appear f _ s))
    (within_modRelease f _ s))

theorem within_surveyAfresh (f : Face) (s : State) : Within f s (surveyAfresh f s) :=
  (within_enterSurvey f s).then (within_appear f _ _)

/-! ### Delivery.lean -/

theorem within_answered (f : Face) (n : Nat) (s : State) : Within f s (answered f n s) := by
  unfold answered
  split
  · exact within_refl f s
  · exact within_ite ((within_modBay f n _ s).then (within_post f _ _ _ _ _)) (within_modBay f n _ s)

theorem within_countMiss (f : Face) (n : Nat) (s : State) : Within f s (countMiss f n s) := by
  unfold countMiss
  split
  · exact within_refl f s
  · rename_i e _
    dsimp only
    have h := within_modBay f n (fun x => { x with miss := min Config.missLimit (e.miss + 1) }) s
    refine within_ite (h.then (within_raise f _ _)) (within_ite ?_ h)
    exact ((h.then (within_modBay f n _ _)).then (within_post f _ _ _ _ _)).then (within_raise f _ _)

theorem within_enterLocked (f : Face) (n : Nat) (s : State) : Within f s (enterLocked f n s) :=
  within_modEntry f n _ s

theorem within_closingReport (f : Face) (n : Nat) (r : Report) (s : State) :
    Within f s (closingReport f n r s) := by
  unfold closingReport
  split
  · exact within_refl f s
  · refine within_ite ((within_enterLocked f n s).then (within_finishClosing f _))
      (within_ite (within_orderClose f n s) (within_ite ?_ (within_refl f s)))
    exact within_ite (within_raised ((within_pauseBay f n s).then (within_countRetry f n _)))
      (within_ite (within_modEntry f n _ s) (within_refl f s))

theorem within_sequenceReport (f : Face) (n : Nat) (r : Report) (s : State) :
    Within f s (sequenceReport f n r s) := by
  unfold sequenceReport
  have h : Within f s
      (if (s.stateOf f).watchesLocks && !r.lock then raise f [(.lock, some n)] s else s) :=
    within_ite (within_raise f _ s) (within_refl f s)
  exact (h.then (within_checkOpened f _)).then (within_closingReport f n r _)

theorem within_gapInformed (f : Face) (n : Nat) (a : Bool) (s : State) : Within f s (gapInformed f n a s) := by
  unfold gapInformed
  split
  · exact within_ite (within_raised (within_gapTrip f n s)) (within_refl f s)
  · exact within_ite (within_refl f s) (within_orderClose f n s)
  · exact within_refl f s

theorem within_takeGap (f : Face) (n : Nat) (r : Report) (s : State) : Within f s (takeGap f n r s) := by
  unfold takeGap
  split
  · exact within_refl f s
  · dsimp only
    split
    · exact within_modBay f n _ s
    · refine Within.then ?_ (within_gapInformed f n _ _)
      refine within_more ?_ (within_raise f _ _)
      exact (within_modBay f n _ s).then (within_post f _ _ _ _ _)

theorem within_takeBeams (f : Face) (n : Nat) (r : Report) (s : State) : Within f s (takeBeams f n r s) := by
  unfold takeBeams
  split
  · exact within_refl f s
  · dsimp only
    have h : ∀ x y, Within f s (modSensing f y (modBay f n x s)) :=
      fun x y => (within_modBay f n x s).then (within_modSensing f y _)
    split
    · exact within_ite (h _ _) ((h _ _).then (within_raised (within_closeOrTrip f n _)))
    · exact h _ _

theorem within_releaseBusy (f : Face) (n : Nat) (s : State) : Within f s (releaseBusy f n s) :=
  within_ite ((within_modBay f n _ s).then (within_moveUp f n _)) (within_refl f s)

theorem within_deliver (f : Face) (n : Nat) (r : Report) (s : State) : Within f s (deliver f n r s) := by
  unfold deliver
  dsimp only
  refine within_ite (within_refl f s) ?_
  exact ((((((within_answered f n s).then (within_modBay f n _ _)).then (within_takeHandle f n _ _)).then
    (within_takeGap f n r _)).then (within_takeBeams f n r _)).then (within_sequenceReport f n r _)).then
    (within_releaseBusy f n _)

theorem within_pollComplete (f : Face) (n : Nat) (b : Bool) (s : State) : Within f s (pollComplete f n b s) :=
  within_ite ((within_modBus f _ s).then (within_surveyPolled f n _)) (within_modBus f _ s)

theorem within_endHit (f : Face) (a : Bool) (s : State) : Within f s (endHit f a s) := within_modBus f _ s

theorem within_reportTaken (f : Face) (k : TransKind) (r : Report) (s : State) :
    Within f s (reportTaken f k r s) := by
  unfold reportTaken
  split
  · exact (within_deliver f _ r s).then (within_pollComplete f _ _ _)
  · exact (within_deliver f _ r s).then (within_endHit f _ _)
  · exact within_deliver f _ r s
  · exact within_refl f s

theorem within_recheckLocked (f : Face) (n : Nat) (s : State) : Within f s (recheckLocked f n s) :=
  within_ite ((within_enterLocked f n s).then (within_finishClosing f _)) (within_refl f s)

theorem within_orderTaken (f : Face) (n : Nat) (s : State) : Within f s (orderTaken f n s) :=
  (within_modBay f n _ s).then (within_moveUp f n _)

theorem within_orderBusy (f : Face) (n : Nat) (o : BayOrder) (s : State) : Within f s (orderBusy f n o s) :=
  (within_modBay f n _ s).then (within_placeFollowUp f n _)

theorem within_orderMissed (f : Face) (n : Nat) (s : State) : Within f s (orderMissed f n s) :=
  within_ite (within_modBay f n _ s) ((within_modBay f n _ s).then (within_moveUp f n _))

theorem within_missedEnd (f : Face) (k : TransKind) (s : State) : Within f s (missedEnd f k s) := by
  unfold missedEnd
  split
  · exact (within_countMiss f _ s).then (within_orderMissed f _ _)
  · exact (within_countMiss f _ s).then (within_pollComplete f _ _ _)
  · exact within_countMiss f _ s
  · exact (within_countMiss f _ s).then (within_endHit f _ _)
  iterate 3 exact within_refl f s

/-! ### Train.lean -/

theorem within_giveStationary (f : Face) (s : State) : Within f s (giveStationary f s) :=
  within_ite (within_enterMeasuring f s) (within_refl f s)

theorem within_reBerth (f : Face) (s : State) : Within f s (reBerth f s) :=
  (within_enterArriving f s).then (within_vacantAgain f _)

theorem within_giveMoving (f : Face) (s : State) : Within f s (giveMoving f s) := by
  unfold giveMoving
  dsimp only
  refine (within_makeStale f s).then ?_
  split
  iterate 2 exact within_reBerth f _
  iterate 3 exact within_trainMovement f _
  exact within_refl f _

theorem within_linkPresent (f : Face) (b : Beacon) (s : State) : Within f s (linkPresent f b s) := by
  unfold linkPresent
  dsimp only
  exact within_ite ((within_modBerth f _ s).then (within_post f _ _ _ _ _)) (within_modBerth f _ s)

theorem within_arrived (f : Face) (b : Beacon) (s : State) : Within f s (arrived f b s) :=
  within_ite (((((within_enterArriving f s).then (within_select f _ _ _)).then
    (within_post f _ _ _ _ _)).then (within_postMismatch f _ _ _)).then (within_vacantAgain f _)) (within_refl f s)

theorem within_motion (f : Face) (was : Berth) (b : Beacon) (s : State) : Within f s (motion f was b s) :=
  within_ite (within_ite (within_giveMoving f s) (within_refl f s))
    (within_ite (within_giveStationary f s) (within_refl f s))

theorem within_offer (f : Face) (was : Berth) (s : State) : Within f s (offer f was s) := by
  unfold offer
  dsimp only
  refine Within.then ?_ (within_trainOffered f _)
  exact within_ite (within_acceptanceTest f s) (within_refl f s)

theorem within_trainDoors (f : Face) (was : Berth) (b : Beacon) (s : State) : Within f s (trainDoors f was b s) :=
  within_ite (within_post f _ _ _ _ s) (within_refl f s)

theorem within_answerBeacon (f : Face) (b : Beacon) (s : State) : Within f s (answerBeacon f b s) :=
  within_modBerth f _ s

theorem within_linkLost (f : Face) (s : State) : Within f s (linkLost f s) := by
  unfold linkLost
  dsimp only
  refine Within.then ?_ (within_offer f _ _)
  have h := within_modBerth f (fun b => { b with present := false }) s
  exact within_ite (((h.then (within_post f _ _ _ _ _)).then (within_modBerth f _ _)).then (within_raise f _ _)) h

theorem within_vacancy (f : Face) (ss : List Strength) (s : State) : Within f s (vacancy f ss s) := by
  unfold vacancy
  dsimp only
  exact within_ite (within_ite (((within_modBerth f _ s).then (within_modBerth f _ _)).then
    (within_giveVacant f _)) (within_modBerth f _ s)) (within_modBerth f _ s)

theorem within_takeReading (f : Face) (ss : List Strength) (s : State) : Within f s (takeReading f ss s) := by
  unfold takeReading
  dsimp only
  exact ((within_modBerth f _ s).then (within_takeSample f _ _)).then (within_vacancy f _ _)

/-! ### Deadlines -/

theorem within_failUnopened (f : Face) (s : State) : Within f s (failUnopened f s) := by
  unfold failUnopened
  dsimp only
  refine Within.then (within_foldl (fun s n => ?_) _ s) (within_raise f _ _)
  exact (within_modSeq f _ s (by exact fun h => h)).then (within_post f _ _ _ _ _)

theorem within_openTravelPassed (f : Face) (s : State) : Within f s (openTravelPassed f s) := by
  unfold openTravelPassed
  dsimp only
  exact (within_failUnopened f s).then
    (within_ite (within_ite (within_enterHeld f _) (within_enterOpen f _)) (within_refl f _))

theorem within_setCap (f : Face) (d : Option Time) (s : State) : Within f s (setCap f d s) :=
  within_modSeq f _ s (by simp)

theorem within_capPassed (f : Face) (s : State) : Within f s (capPassed f s) :=
  ((within_post f _ _ _ _ s).then (within_setCap f _ _)).then (within_satisfied f _)

theorem within_takeBay {f : Face} {p : Phase} {g : Nat → State → Raising} (h : ∀ n s, Within f s (g n s).1)
    (x : Raising) (n : Nat) : Within f x.1 (takeBay f p g x n).1 := by
  unfold takeBay
  split
  · exact h n _
  · exact within_refl f _

theorem within_takeBays (f : Face) (p : Phase) (g : Nat → State → Raising) (h : ∀ n s, Within f s (g n s).1)
    (s : State) : Within f s (takeBays f p g s).1 := by
  unfold takeBays
  generalize s.baysIn f p = ns
  have : ∀ x : Raising, Within f x.1 (ns.foldl (takeBay f p g) x).1 := by
    induction ns with
    | nil => exact fun x => within_refl f _
    | cons n ns ih => exact fun x => (within_takeBay h x n).then (ih _)
  exact this (s, [])

theorem within_leaveWaiting (f : Face) (n : Nat) (s : State) : Within f s (leaveWaiting f n s).1 := by
  unfold leaveWaiting
  split
  · exact within_modEntry f n _ s
  · exact within_closeOrTrip f n s

theorem within_warningOver (f : Face) (s : State) : Within f s (warningOver f s) := by
  have h := ((within_modSeq f (fun r => { r with endOfWarning := none }) s (by exact fun h => h)).then
    (within_groupWarn f false _)).then (within_takeBays f .waiting _ (fun n s => within_leaveWaiting f n s) _)
  unfold warningOver
  dsimp only
  exact within_raised (h.then (within_modSeq f (fun r => { r with doorway := _ }) _ (by exact fun h => h)))

theorem within_doorwayOver (f : Face) (s : State) : Within f s (doorwayOver f s) :=
  within_raised (within_takeBays f .doorway _ (fun n s => within_closeOrTrip f n s) s)

theorem within_pauseOver (f : Face) (n : Nat) (s : State) : Within f s (pauseOver f n s) :=
  within_ite (within_modEntry f n _ s) (within_orderClose f n s)

theorem within_travelOver (f : Face) (n : Nat) (s : State) : Within f s (travelOver f n s) :=
  within_raised ((within_countRetry f n s).then (within_ite (within_orderClose f n _) (within_refl f _)))

theorem within_proofOver (f : Face) (n : Nat) (s : State) : Within f s (proofOver f n s) := by
  unfold proofOver
  dsimp only
  refine within_ite (within_ite ?_ ?_) (within_raise f _ s)
  · exact (within_raise f _ s).then (within_modEntry f n _ _)
  · exact ((within_raise f _ s).then (within_issue f n _ _)).then (within_modEntry f n _ _)

/-! ### Requests -/

theorem within_placeOrder (f : Face) (id : Byte) (s : State) : Within f s (placeOrder f id s) :=
  within_modSeq f _ s (by exact fun h => h)

theorem within_dwellSet (f : Face) (v : DwellValues) (s : State) : Within f s (dwellSet f v s) := by
  refine within_modSeq f _ s ?_ ?_
  · dsimp only
    split <;> simp
  · dsimp only
    split <;> rfl

theorem within_cancelHold (f : Face) (s : State) : Within f s (cancelHold f s) := by
  unfold cancelHold
  dsimp only
  exact within_ite ((within_clearHold f s).then (within_satisfied f _)) (within_clearHold f s)

theorem within_clearFaults (f : Face) (named : Flag → Bool) (s : State) : Within f s (clearFaults f named s) := by
  unfold clearFaults
  dsimp only
  have h := within_modFault f (fun u => { u with flags := u.flags.clear named }) s (by rfl)
  refine Within.then ?_ (within_post f _ _ _ _ _)
  exact within_ite h (h.then (within_modFault f _ _ (by rfl)))

theorem within_resetRelease (f : Face) (s : State) : Within f s (resetRelease f s) := by
  unfold resetRelease
  dsimp only
  have h : ∀ g, Within f s (post .releaseReset (some f) none [s.resetDetail f]
      (modBerth f (fun b => { b with doorList := [] }) (modRelease f g s))) := fun g =>
    ((within_modRelease f g s).then (within_modBerth f _ _)).then (within_post f _ _ _ _ _)
  exact within_ite ((h _).then (within_enterSurvey f _))
    (((h _).then (within_modRelease f _ _)).then (within_startRecovery f _))

end Sys2Proof.Machine
end

