-- ==== Sys2Proof/Laws/Link.lean ====
section
/-!
SUPPORT. What the operations over the whole part do: time passing, the composition of the permits at the
end of an event, the Link Interface and the examination of a request.
-/

-- One proof after another: side by side their threads' stacks fill the checker's memory.
set_option Elab.async false

namespace Sys2Proof.Machine

open Sys2Proof.Safety

/-! ### Time passes (R165, R80) -/

/-- A connection hold counts, and nothing else changes. -/
theorem countHold_faces (n : Nat) (f : Face) (s : State) :
    countHold n f s = s ∨
      countHold n f s = modSeq f (fun r =>
        { r with hold := r.hold.map fun h => { h with accumulated := h.accumulated + n } }) s := by
  unfold countHold
  split
  · exact .inr rfl
  · exact .inl rfl

@[simp] theorem countHold_time (n : Nat) (f : Face) (s : State) : (countHold n f s).time = s.time := by
  unfold countHold; split <;> rfl

@[simp] theorem countHold_store (n : Nat) (f : Face) (s : State) : (countHold n f s).store = s.store := by
  unfold countHold; split <;> rfl

@[simp] theorem countHold_fire (n : Nat) (f : Face) (s : State) : (countHold n f s).fire = s.fire := by
  unfold countHold; split <;> rfl

@[simp] theorem countHold_serving (n : Nat) (f : Face) (s : State) : (countHold n f s).serving = s.serving := by
  unfold countHold; split <;> rfl

@[simp] theorem countHold_waitingFor (n : Nat) (f : Face) (s : State) : (countHold n f s).waitingFor = s.waitingFor := by
  unfold countHold; split <;> rfl

@[simp] theorem countHold_receiver (n : Nat) (f : Face) (s : State) : (countHold n f s).receiver = s.receiver := by
  unfold countHold; split <;> rfl

@[simp] theorem countHold_rx (n : Nat) (f : Face) (s : State) : (countHold n f s).rx = s.rx := by
  unfold countHold; split <;> rfl

@[simp] theorem countHold_dropped (n : Nat) (f : Face) (s : State) : (countHold n f s).dropped = s.dropped := by
  unfold countHold; split <;> rfl

@[simp] theorem countHold_overrun (n : Nat) (f : Face) (s : State) : (countHold n f s).overrun = s.overrun := by
  unfold countHold; split <;> rfl

@[simp] theorem countHold_discards (n : Nat) (f : Face) (s : State) : (countHold n f s).discards = s.discards := by
  unfold countHold; split <;> rfl

@[simp] theorem countHold_events (n : Nat) (f : Face) (s : State) : (countHold n f s).events = s.events := by
  unfold countHold; split <;> rfl

@[simp] theorem countHold_batch (n : Nat) (f : Face) (s : State) : (countHold n f s).batch = s.batch := by
  unfold countHold; split <;> rfl

@[simp] theorem countHold_stationOut (n : Nat) (f : Face) (s : State) : (countHold n f s).stationOut = s.stationOut := by
  unfold countHold; split <;> rfl

@[simp] theorem countHold_freeCount (n : Nat) (f : Face) (s : State) : (countHold n f s).freeCount = s.freeCount := by
  unfold countHold; split <;> rfl

@[simp] theorem countHold_pending (n : Nat) (f : Face) (s : State) : (countHold n f s).pending = s.pending := by
  unfold countHold; split <;> rfl

@[simp] theorem countHold_berth (n : Nat) (f g : Face) (s : State) :
    ((countHold n f s).face g).berth = (s.face g).berth := by
  unfold countHold; split <;> cases f <;> cases g <;> rfl

@[simp] theorem countHold_meas (n : Nat) (f g : Face) (s : State) :
    ((countHold n f s).face g).meas = (s.face g).meas := by
  unfold countHold; split <;> cases f <;> cases g <;> rfl

@[simp] theorem countHold_bays (n : Nat) (f g : Face) (s : State) :
    ((countHold n f s).face g).bays = (s.face g).bays := by
  unfold countHold; split <;> cases f <;> cases g <;> rfl

@[simp] theorem countHold_bus (n : Nat) (f g : Face) (s : State) :
    ((countHold n f s).face g).bus = (s.face g).bus := by
  unfold countHold; split <;> cases f <;> cases g <;> rfl

@[simp] theorem countHold_sensing (n : Nat) (f g : Face) (s : State) :
    ((countHold n f s).face g).sensing = (s.face g).sensing := by
  unfold countHold; split <;> cases f <;> cases g <;> rfl

@[simp] theorem countHold_release (n : Nat) (f g : Face) (s : State) :
    ((countHold n f s).face g).release = (s.face g).release := by
  unfold countHold; split <;> cases f <;> cases g <;> rfl

@[simp] theorem countHold_fault (n : Nat) (f g : Face) (s : State) :
    ((countHold n f s).face g).fault = (s.face g).fault := by
  unfold countHold; split <;> cases f <;> cases g <;> rfl

@[simp] theorem countHold_permit (n : Nat) (f g : Face) (s : State) :
    ((countHold n f s).face g).permit = (s.face g).permit := by
  unfold countHold; split <;> cases f <;> cases g <;> rfl

@[simp] theorem countHold_enable (n : Nat) (f g : Face) (s : State) :
    ((countHold n f s).face g).enable = (s.face g).enable := by
  unfold countHold; split <;> cases f <;> cases g <;> rfl

@[simp] theorem countHold_loop (n : Nat) (f g : Face) (s : State) :
    ((countHold n f s).face g).loop = (s.face g).loop := by
  unfold countHold; split <;> cases f <;> cases g <;> rfl

/-- The Face Record but for its hold record. -/
@[simp] theorem countHold_seq (n : Nat) (f g : Face) (s : State) :
    { ((countHold n f s).face g).seq with hold := none } = { (s.face g).seq with hold := none } := by
  unfold countHold; split <;> cases f <;> cases g <;> rfl

@[simp] theorem countHold_stateOf (n : Nat) (f g : Face) (s : State) :
    (countHold n f s).stateOf g = s.stateOf g := by
  unfold countHold; split <;> cases f <;> cases g <;> rfl

@[simp] theorem countHold_hold (n : Nat) (f g : Face) (s : State) :
    ((countHold n f s).face g).seq.hold.isSome = (s.face g).seq.hold.isSome := by
  unfold countHold; split <;> cases f <;> cases g <;>
    simp [modSeq, modFace, State.face, PerFace.get, PerFace.set]

@[simp] theorem elapse_store (n : Nat) (s : State) : (elapse n s).store = s.store := by
  simp [elapse]

@[simp] theorem elapse_fire (n : Nat) (s : State) : (elapse n s).fire = s.fire := by
  simp [elapse]

@[simp] theorem elapse_serving (n : Nat) (s : State) : (elapse n s).serving = s.serving := by
  simp [elapse]

@[simp] theorem elapse_waitingFor (n : Nat) (s : State) : (elapse n s).waitingFor = s.waitingFor := by
  simp [elapse]

@[simp] theorem elapse_receiver (n : Nat) (s : State) : (elapse n s).receiver = s.receiver := by
  simp [elapse]

@[simp] theorem elapse_rx (n : Nat) (s : State) : (elapse n s).rx = s.rx := by
  simp [elapse]

@[simp] theorem elapse_dropped (n : Nat) (s : State) : (elapse n s).dropped = s.dropped := by
  simp [elapse]

@[simp] theorem elapse_overrun (n : Nat) (s : State) : (elapse n s).overrun = s.overrun := by
  simp [elapse]

@[simp] theorem elapse_discards (n : Nat) (s : State) : (elapse n s).discards = s.discards := by
  simp [elapse]

@[simp] theorem elapse_events (n : Nat) (s : State) : (elapse n s).events = s.events := by
  simp [elapse]

@[simp] theorem elapse_batch (n : Nat) (s : State) : (elapse n s).batch = s.batch := by
  simp [elapse]

@[simp] theorem elapse_stationOut (n : Nat) (s : State) : (elapse n s).stationOut = s.stationOut := by
  simp [elapse]

@[simp] theorem elapse_freeCount (n : Nat) (s : State) : (elapse n s).freeCount = s.freeCount := by
  simp [elapse]

@[simp] theorem elapse_pending (n : Nat) (s : State) : (elapse n s).pending = s.pending := by
  simp [elapse]

@[simp] theorem elapse_time (n : Nat) (s : State) : (elapse n s).time = s.time + ms n := by
  simp [elapse]

theorem elapse_face (n : Nat) (g : Face) (s : State) :
    (elapse n s).face g = (countHold n .b (countHold n .a s)).face g := rfl

@[simp] theorem elapse_berth (n : Nat) (g : Face) (s : State) :
    ((elapse n s).face g).berth = (s.face g).berth := by
  simp [elapse_face]

@[simp] theorem elapse_meas (n : Nat) (g : Face) (s : State) :
    ((elapse n s).face g).meas = (s.face g).meas := by
  simp [elapse_face]

@[simp] theorem elapse_bays (n : Nat) (g : Face) (s : State) :
    ((elapse n s).face g).bays = (s.face g).bays := by
  simp [elapse_face]

@[simp] theorem elapse_bus (n : Nat) (g : Face) (s : State) :
    ((elapse n s).face g).bus = (s.face g).bus := by
  simp [elapse_face]

@[simp] theorem elapse_sensing (n : Nat) (g : Face) (s : State) :
    ((elapse n s).face g).sensing = (s.face g).sensing := by
  simp [elapse_face]

@[simp] theorem elapse_release (n : Nat) (g : Face) (s : State) :
    ((elapse n s).face g).release = (s.face g).release := by
  simp [elapse_face]

@[simp] theorem elapse_fault (n : Nat) (g : Face) (s : State) :
    ((elapse n s).face g).fault = (s.face g).fault := by
  simp [elapse_face]

@[simp] theorem elapse_permit (n : Nat) (g : Face) (s : State) :
    ((elapse n s).face g).permit = (s.face g).permit := by
  simp [elapse_face]

@[simp] theorem elapse_enable (n : Nat) (g : Face) (s : State) :
    ((elapse n s).face g).enable = (s.face g).enable := by
  simp [elapse_face]

@[simp] theorem elapse_loop (n : Nat) (g : Face) (s : State) :
    ((elapse n s).face g).loop = (s.face g).loop := by
  simp [elapse_face]

/-- The Face Record but for its hold record. -/
@[simp] theorem elapse_seq (n : Nat) (g : Face) (s : State) :
    { ((elapse n s).face g).seq with hold := none } = { (s.face g).seq with hold := none } := by
  rw [elapse_face, countHold_seq, countHold_seq]

@[simp] theorem elapse_stateOf (n : Nat) (g : Face) (s : State) : (elapse n s).stateOf g = s.stateOf g :=
  (countHold_stateOf n .b g _).trans (countHold_stateOf n .a g s)

@[simp] theorem elapse_hold (n : Nat) (g : Face) (s : State) :
    ((elapse n s).face g).seq.hold.isSome = (s.face g).seq.hold.isSome := by
  rw [elapse_face, countHold_hold, countHold_hold]

/-- No time passes where the counter has reached the deadline. -/
theorem advanceTo_due {d : Time} {s : State} (h : due s.time d = true) : advanceTo d s = s := by
  simp [advanceTo, h]

/-- Else the time up to the deadline passes. -/
theorem advanceTo_early {d : Time} {s : State} (h : due s.time d = false) :
    advanceTo d s = elapse (elapsed d s.time) s := by
  simp [advanceTo, h]

/-- A deadline passing is some time's passing. -/
theorem advanceTo_elapse (d : Time) (s : State) : advanceTo d s = s ∨ ∃ n, advanceTo d s = elapse n s := by
  unfold advanceTo
  split
  · exact .inl rfl
  · exact .inr ⟨_, rfl⟩

/-- After a deadline that had not passed, the counter stands at it. -/
theorem advanceTo_time {d : Time} {s : State} (h : due s.time d = false) : (advanceTo d s).time = d := by
  rw [advanceTo_early h, elapse_time, elapsed, ms, BitVec.ofNat_toNat, BitVec.setWidth_eq]
  bv_omega

@[simp] theorem advanceTo_store (d : Time) (s : State) : (advanceTo d s).store = s.store := by
  rcases advanceTo_elapse d s with h | ⟨n, h⟩ <;> simp [h]

@[simp] theorem advanceTo_fire (d : Time) (s : State) : (advanceTo d s).fire = s.fire := by
  rcases advanceTo_elapse d s with h | ⟨n, h⟩ <;> simp [h]

@[simp] theorem advanceTo_serving (d : Time) (s : State) : (advanceTo d s).serving = s.serving := by
  rcases advanceTo_elapse d s with h | ⟨n, h⟩ <;> simp [h]

@[simp] theorem advanceTo_waitingFor (d : Time) (s : State) : (advanceTo d s).waitingFor = s.waitingFor := by
  rcases advanceTo_elapse d s with h | ⟨n, h⟩ <;> simp [h]

@[simp] theorem advanceTo_receiver (d : Time) (s : State) : (advanceTo d s).receiver = s.receiver := by
  rcases advanceTo_elapse d s with h | ⟨n, h⟩ <;> simp [h]

@[simp] theorem advanceTo_rx (d : Time) (s : State) : (advanceTo d s).rx = s.rx := by
  rcases advanceTo_elapse d s with h | ⟨n, h⟩ <;> simp [h]

@[simp] theorem advanceTo_dropped (d : Time) (s : State) : (advanceTo d s).dropped = s.dropped := by
  rcases advanceTo_elapse d s with h | ⟨n, h⟩ <;> simp [h]

@[simp] theorem advanceTo_overrun (d : Time) (s : State) : (advanceTo d s).overrun = s.overrun := by
  rcases advanceTo_elapse d s with h | ⟨n, h⟩ <;> simp [h]

@[simp] theorem advanceTo_discards (d : Time) (s : State) : (advanceTo d s).discards = s.discards := by
  rcases advanceTo_elapse d s with h | ⟨n, h⟩ <;> simp [h]

@[simp] theorem advanceTo_events (d : Time) (s : State) : (advanceTo d s).events = s.events := by
  rcases advanceTo_elapse d s with h | ⟨n, h⟩ <;> simp [h]

@[simp] theorem advanceTo_batch (d : Time) (s : State) : (advanceTo d s).batch = s.batch := by
  rcases advanceTo_elapse d s with h | ⟨n, h⟩ <;> simp [h]

@[simp] theorem advanceTo_stationOut (d : Time) (s : State) : (advanceTo d s).stationOut = s.stationOut := by
  rcases advanceTo_elapse d s with h | ⟨n, h⟩ <;> simp [h]

@[simp] theorem advanceTo_freeCount (d : Time) (s : State) : (advanceTo d s).freeCount = s.freeCount := by
  rcases advanceTo_elapse d s with h | ⟨n, h⟩ <;> simp [h]

@[simp] theorem advanceTo_pending (d : Time) (s : State) : (advanceTo d s).pending = s.pending := by
  rcases advanceTo_elapse d s with h | ⟨n, h⟩ <;> simp [h]

@[simp] theorem advanceTo_berth (d : Time) (g : Face) (s : State) :
    ((advanceTo d s).face g).berth = (s.face g).berth := by
  rcases advanceTo_elapse d s with h | ⟨n, h⟩ <;> simp [h]

@[simp] theorem advanceTo_meas (d : Time) (g : Face) (s : State) :
    ((advanceTo d s).face g).meas = (s.face g).meas := by
  rcases advanceTo_elapse d s with h | ⟨n, h⟩ <;> simp [h]

@[simp] theorem advanceTo_bays (d : Time) (g : Face) (s : State) :
    ((advanceTo d s).face g).bays = (s.face g).bays := by
  rcases advanceTo_elapse d s with h | ⟨n, h⟩ <;> simp [h]

@[simp] theorem advanceTo_bus (d : Time) (g : Face) (s : State) :
    ((advanceTo d s).face g).bus = (s.face g).bus := by
  rcases advanceTo_elapse d s with h | ⟨n, h⟩ <;> simp [h]

@[simp] theorem advanceTo_sensing (d : Time) (g : Face) (s : State) :
    ((advanceTo d s).face g).sensing = (s.face g).sensing := by
  rcases advanceTo_elapse d s with h | ⟨n, h⟩ <;> simp [h]

@[simp] theorem advanceTo_release (d : Time) (g : Face) (s : State) :
    ((advanceTo d s).face g).release = (s.face g).release := by
  rcases advanceTo_elapse d s with h | ⟨n, h⟩ <;> simp [h]

@[simp] theorem advanceTo_fault (d : Time) (g : Face) (s : State) :
    ((advanceTo d s).face g).fault = (s.face g).fault := by
  rcases advanceTo_elapse d s with h | ⟨n, h⟩ <;> simp [h]

@[simp] theorem advanceTo_permit (d : Time) (g : Face) (s : State) :
    ((advanceTo d s).face g).permit = (s.face g).permit := by
  rcases advanceTo_elapse d s with h | ⟨n, h⟩ <;> simp [h]

@[simp] theorem advanceTo_enable (d : Time) (g : Face) (s : State) :
    ((advanceTo d s).face g).enable = (s.face g).enable := by
  rcases advanceTo_elapse d s with h | ⟨n, h⟩ <;> simp [h]

@[simp] theorem advanceTo_loop (d : Time) (g : Face) (s : State) :
    ((advanceTo d s).face g).loop = (s.face g).loop := by
  rcases advanceTo_elapse d s with h | ⟨n, h⟩ <;> simp [h]

/-- The Face Record but for its hold record. -/
@[simp] theorem advanceTo_seq (d : Time) (g : Face) (s : State) :
    { ((advanceTo d s).face g).seq with hold := none } = { (s.face g).seq with hold := none } := by
  rcases advanceTo_elapse d s with h | ⟨n, h⟩ <;> simp [h]

@[simp] theorem advanceTo_stateOf (d : Time) (g : Face) (s : State) :
    (advanceTo d s).stateOf g = s.stateOf g := by
  rcases advanceTo_elapse d s with h | ⟨n, h⟩ <;> simp [h]

@[simp] theorem advanceTo_hold (d : Time) (g : Face) (s : State) :
    ((advanceTo d s).face g).seq.hold.isSome = (s.face g).seq.hold.isSome := by
  rcases advanceTo_elapse d s with h | ⟨n, h⟩ <;> simp [h]

/-! ### The end of an event (R154) -/

theorem composePermit_face (f : Face) (s : State) :
    (composePermit f s).face f = { s.face f with permit := s.permitComposed f } := by
  unfold composePermit
  dsimp only
  split
  · rename_i h; rw [h]
  · simp

theorem composePermit_other (f : Face) (s : State) :
    (composePermit f s).face (otherFace f) = s.face (otherFace f) := by
  unfold composePermit
  dsimp only
  split <;> simp

@[simp] theorem composePermit_time (f : Face) (s : State) : (composePermit f s).time = s.time := by
  unfold composePermit; dsimp only; split <;> simp

@[simp] theorem composePermit_store (f : Face) (s : State) : (composePermit f s).store = s.store := by
  unfold composePermit; dsimp only; split <;> simp

@[simp] theorem composePermit_fire (f : Face) (s : State) : (composePermit f s).fire = s.fire := by
  unfold composePermit; dsimp only; split <;> simp

@[simp] theorem composePermit_serving (f : Face) (s : State) : (composePermit f s).serving = s.serving := by
  unfold composePermit; dsimp only; split <;> simp

@[simp] theorem composePermit_waitingFor (f : Face) (s : State) : (composePermit f s).waitingFor = s.waitingFor := by
  unfold composePermit; dsimp only; split <;> simp

@[simp] theorem composePermit_receiver (f : Face) (s : State) : (composePermit f s).receiver = s.receiver := by
  unfold composePermit; dsimp only; split <;> simp

@[simp] theorem composePermit_rx (f : Face) (s : State) : (composePermit f s).rx = s.rx := by
  unfold composePermit; dsimp only; split <;> simp

@[simp] theorem composePermit_dropped (f : Face) (s : State) : (composePermit f s).dropped = s.dropped := by
  unfold composePermit; dsimp only; split <;> simp

@[simp] theorem composePermit_discards (f : Face) (s : State) : (composePermit f s).discards = s.discards := by
  unfold composePermit; dsimp only; split <;> simp

@[simp] theorem composePermit_batch (f : Face) (s : State) : (composePermit f s).batch = s.batch := by
  unfold composePermit; dsimp only; split <;> simp

@[simp] theorem composePermit_stationOut (f : Face) (s : State) : (composePermit f s).stationOut = s.stationOut := by
  unfold composePermit; dsimp only; split <;> simp

@[simp] theorem composePermit_freeCount (f : Face) (s : State) : (composePermit f s).freeCount = s.freeCount := by
  unfold composePermit; dsimp only; split <;> simp

@[simp] theorem composePermit_pending (f : Face) (s : State) : (composePermit f s).pending = s.pending := by
  unfold composePermit; dsimp only; split <;> simp

/-- At most one record joins the Event Queue. -/
theorem composePermit_events (f : Face) (s : State) :
    s.events <+: (composePermit f s).events
      ∧ (s.events.length ≤ Config.queueSize → (composePermit f s).events.length ≤ Config.queueSize)
      ∧ (s.overrun = true → (composePermit f s).overrun = true) := by
  unfold composePermit
  dsimp only
  split
  · exact ⟨List.prefix_rfl, id, id⟩
  · have h := within_post f .permitChanged (some f) none [yesNo (s.permitComposed f)]
      (modFace f (fun b => { b with permit := s.permitComposed f }) s)
    exact ⟨h.events, h.bounded, h.overrun⟩

/-- The permit of a face is composed from that face and the configuration alone. -/
theorem permitComposed_congr {s t : State} {f : Face} (h : t.face f = s.face f) (k : t.store = s.store) :
    t.permitComposed f = s.permitComposed f := by
  unfold State.permitComposed State.stateOf State.loopClosed State.params State.cfg
  rw [h, k]

/-- The composition leaves out the value driven. -/
theorem permitComposed_permit (s : State) (f : Face) (b : Bool) :
    ({ s with faces := s.faces.set f { s.face f with permit := b } } : State).permitComposed f
      = s.permitComposed f := by
  cases f <;> rfl

/-- The end of an event: each face's permit takes the value composed, and nothing else of it changes. -/
theorem settle_face (g : Face) (s : State) :
    (settle s).face g = { s.face g with permit := s.permitComposed g } := by
  unfold settle
  cases g
  · have h := composePermit_other .b (composePermit .a s)
    have k := composePermit_face .a s
    exact h.trans k
  · rw [composePermit_face]
    have h : (composePermit .a s).face .b = s.face .b := composePermit_other .a s
    rw [h, permitComposed_congr h (composePermit_store .a s)]

@[simp] theorem settle_time (s : State) : (settle s).time = s.time := by
  simp [settle]

@[simp] theorem settle_store (s : State) : (settle s).store = s.store := by
  simp [settle]

@[simp] theorem settle_fire (s : State) : (settle s).fire = s.fire := by
  simp [settle]

@[simp] theorem settle_serving (s : State) : (settle s).serving = s.serving := by
  simp [settle]

@[simp] theorem settle_waitingFor (s : State) : (settle s).waitingFor = s.waitingFor := by
  simp [settle]

@[simp] theorem settle_receiver (s : State) : (settle s).receiver = s.receiver := by
  simp [settle]

@[simp] theorem settle_rx (s : State) : (settle s).rx = s.rx := by
  simp [settle]

@[simp] theorem settle_dropped (s : State) : (settle s).dropped = s.dropped := by
  simp [settle]

@[simp] theorem settle_discards (s : State) : (settle s).discards = s.discards := by
  simp [settle]

@[simp] theorem settle_batch (s : State) : (settle s).batch = s.batch := by
  simp [settle]

@[simp] theorem settle_stationOut (s : State) : (settle s).stationOut = s.stationOut := by
  simp [settle]

@[simp] theorem settle_freeCount (s : State) : (settle s).freeCount = s.freeCount := by
  simp [settle]

@[simp] theorem settle_pending (s : State) : (settle s).pending = s.pending := by
  simp [settle]

theorem settle_events (s : State) :
    s.events <+: (settle s).events
      ∧ (s.events.length ≤ Config.queueSize → (settle s).events.length ≤ Config.queueSize)
      ∧ (s.overrun = true → (settle s).overrun = true) :=
  have a := composePermit_events .a s
  have b := composePermit_events .b (composePermit .a s)
  ⟨a.1.trans b.1, fun h => b.2.1 (a.2.1 h), fun h => b.2.2 (a.2.2 h)⟩

@[simp] theorem settle_stateOf (g : Face) (s : State) : (settle s).stateOf g = s.stateOf g := by
  simp only [State.stateOf, settle_face]

/-- After the end of an event every permit is the composition of its inputs (R154). -/
theorem settle_permit (g : Face) (s : State) : ((settle s).face g).permit = (settle s).permitComposed g := by
  have h : (settle s).permitComposed g = s.permitComposed g := by
    unfold State.permitComposed State.stateOf State.loopClosed State.params State.cfg
    rw [settle_face, settle_store]
  rw [h, settle_face]

/-- Where every permit is composed already, the end of an event changes nothing. -/
theorem settle_composed {s : State} (h : Composed s) : settle s = s := by
  have ha : composePermit .a s = s := by
    unfold composePermit
    exact if_pos (h .a).symm
  unfold settle
  rw [ha]
  unfold composePermit
  exact if_pos (h .b).symm

/-- The composition reads the face state, the loop, its sense and the bays' locks, marks and gaps. -/
theorem permitComposed_of {s t : State} {f : Face} (h : t.stateOf f = s.stateOf f)
    (l : (t.face f).loop.level = (s.face f).loop.level)
    (p : (t.params f).loopSense = (s.params f).loopSense) (b : (t.face f).bays = (s.face f).bays) :
    t.permitComposed f = s.permitComposed f := by
  unfold State.permitComposed State.loopClosed
  rw [h, l, p, b]

/-- A change of one face that leaves its permit and the permit's inputs alone keeps the composition. -/
theorem composed_modFace {s : State} (h : Composed s) (f : Face) (g : FaceBlock → FaceBlock)
    (st : (g (s.face f)).seq.state = (s.face f).seq.state) (l : (g (s.face f)).loop = (s.face f).loop)
    (b : (g (s.face f)).bays = (s.face f).bays) (p : (g (s.face f)).permit = (s.face f).permit) :
    Composed (modFace f g s) := by
  intro e
  by_cases he : e = f
  · subst he
    rw [permitComposed_of (s := s)]
    · rw [modFace_face, p]; exact h e
    · rw [State.stateOf_eq, modFace_face, st]; rfl
    · rw [modFace_face, l]
    · rw [modFace_params]
    · rw [modFace_face, b]
  · obtain rfl := eq_otherFace he
    rw [permitComposed_congr (s := s) (by simp) (by simp), modFace_other]
    exact h _

theorem composed_modSeq {s : State} (h : Composed s) (f : Face) (g : FaceRecord → FaceRecord)
    (k : (g (s.face f).seq).state = (s.face f).seq.state) : Composed (modSeq f g s) :=
  composed_modFace h f _ k rfl rfl rfl

theorem composed_modBerth {s : State} (h : Composed s) (f : Face) (g : Berth → Berth) : Composed (modBerth f g s) :=
  composed_modFace h f _ rfl rfl rfl rfl

theorem composed_modFault {s : State} (h : Composed s) (f : Face) (g : FaultUnit → FaultUnit) :
    Composed (modFault f g s) :=
  composed_modFace h f _ rfl rfl rfl rfl

theorem composed_post {s : State} (h : Composed s) (k : EventKind) (f : Option Face) (n : Option Nat) (ds : List Nat) :
    Composed (post k f n ds s) := by
  intro e
  rw [permitComposed_congr (s := s) (by simp) (by simp)]
  simpa using h e

/-- Work at a face and the end of its event leave the rest as it was. -/
theorem within_leaves_settle {f : Face} {s t : State} (h : Within f s t) :
    Leaves f s (settle t) where
  time := by simpa using h.time
  store := by simpa using h.store
  fire := by simpa using h.fire
  receiver := by simpa using h.receiver
  discards := by simpa using h.discards
  batch := by simpa using h.batch
  freeCount := by simpa using h.freeCount
  pending := by simpa using h.pending
  other := by rw [settle_face, ← h.other]
  enable := by rw [settle_face]; exact h.enable
  loop := by rw [settle_face]; exact h.loop
  events := h.events.trans (settle_events t).1

/-! ### The Link Interface (R159, R160) -/

/-- A request at the front is carried out, its reply sent and its frame taken from the buffer. -/
theorem serve_front {fr : Frame} {s : State} (h : s.atFront fr = true) (body : Body) :
    serve fr body s = leaveBuffer (sendReply fr (body s).2 (body s).1) := by
  simp [serve, h]

/-- A request behind an older frame enters the buffer as a frame just completed. -/
theorem serve_behind {fr : Frame} {s : State} (h : s.atFront fr = false) (body : Body) :
    serve fr body s = enterBuffer fr s := by
  simp [serve, h]

/-- A service is one of the two. -/
theorem serve_cases (fr : Frame) (body : Body) (s : State) :
    (s.atFront fr = true ∧ serve fr body s = leaveBuffer (sendReply fr (body s).2 (body s).1))
      ∨ (s.atFront fr = false ∧ serve fr body s = enterBuffer fr s) := by
  cases h : s.atFront fr
  · exact .inr ⟨rfl, serve_behind h body⟩
  · exact .inl ⟨rfl, serve_front h body⟩

@[simp] theorem sendReply_faces (fr : Frame) (r : Reply) (s : State) : (sendReply fr r s).faces = s.faces := rfl

@[simp] theorem sendReply_face (fr : Frame) (r : Reply) (f : Face) (s : State) :
    (sendReply fr r s).face f = s.face f := rfl

@[simp] theorem leaveBuffer_face (f : Face) (s : State) : (leaveBuffer s).face f = s.face f := rfl

@[simp] theorem enterBuffer_face (fr : Frame) (f : Face) (s : State) : (enterBuffer fr s).face f = s.face f := by
  unfold enterBuffer; split <;> rfl

@[simp] theorem sendReply_time (fr : Frame) (r : Reply) (s : State) : (sendReply fr r s).time = s.time := rfl

@[simp] theorem sendReply_store (fr : Frame) (r : Reply) (s : State) : (sendReply fr r s).store = s.store := rfl

@[simp] theorem sendReply_fire (fr : Frame) (r : Reply) (s : State) : (sendReply fr r s).fire = s.fire := rfl

@[simp] theorem sendReply_serving (fr : Frame) (r : Reply) (s : State) : (sendReply fr r s).serving = s.serving := rfl

@[simp] theorem sendReply_waitingFor (fr : Frame) (r : Reply) (s : State) : (sendReply fr r s).waitingFor = s.waitingFor := rfl

@[simp] theorem sendReply_receiver (fr : Frame) (r : Reply) (s : State) : (sendReply fr r s).receiver = s.receiver := rfl

@[simp] theorem sendReply_rx (fr : Frame) (r : Reply) (s : State) : (sendReply fr r s).rx = s.rx := rfl

@[simp] theorem sendReply_discards (fr : Frame) (r : Reply) (s : State) : (sendReply fr r s).discards = s.discards := rfl

@[simp] theorem sendReply_events (fr : Frame) (r : Reply) (s : State) : (sendReply fr r s).events = s.events := rfl

@[simp] theorem sendReply_batch (fr : Frame) (r : Reply) (s : State) : (sendReply fr r s).batch = s.batch := rfl

@[simp] theorem sendReply_freeCount (fr : Frame) (r : Reply) (s : State) : (sendReply fr r s).freeCount = s.freeCount := rfl

@[simp] theorem sendReply_pending (fr : Frame) (r : Reply) (s : State) : (sendReply fr r s).pending = s.pending := rfl

@[simp] theorem leaveBuffer_time (s : State) : (leaveBuffer s).time = s.time := rfl

@[simp] theorem leaveBuffer_overrun (s : State) : (leaveBuffer s).overrun = s.overrun := rfl

@[simp] theorem leaveBuffer_dropped (s : State) : (leaveBuffer s).dropped = s.dropped := rfl

@[simp] theorem leaveBuffer_stationOut (s : State) : (leaveBuffer s).stationOut = s.stationOut := rfl

@[simp] theorem leaveBuffer_store (s : State) : (leaveBuffer s).store = s.store := rfl

@[simp] theorem leaveBuffer_fire (s : State) : (leaveBuffer s).fire = s.fire := rfl

@[simp] theorem leaveBuffer_serving (s : State) : (leaveBuffer s).serving = s.serving := rfl

@[simp] theorem leaveBuffer_waitingFor (s : State) : (leaveBuffer s).waitingFor = s.waitingFor := rfl

@[simp] theorem leaveBuffer_receiver (s : State) : (leaveBuffer s).receiver = s.receiver := rfl

@[simp] theorem leaveBuffer_discards (s : State) : (leaveBuffer s).discards = s.discards := rfl

@[simp] theorem leaveBuffer_events (s : State) : (leaveBuffer s).events = s.events := rfl

@[simp] theorem leaveBuffer_batch (s : State) : (leaveBuffer s).batch = s.batch := rfl

@[simp] theorem leaveBuffer_freeCount (s : State) : (leaveBuffer s).freeCount = s.freeCount := rfl

@[simp] theorem leaveBuffer_pending (s : State) : (leaveBuffer s).pending = s.pending := rfl

@[simp] theorem enterBuffer_time (fr : Frame) (s : State) : (enterBuffer fr s).time = s.time := by
  unfold enterBuffer; split <;> rfl

@[simp] theorem enterBuffer_store (fr : Frame) (s : State) : (enterBuffer fr s).store = s.store := by
  unfold enterBuffer; split <;> rfl

@[simp] theorem enterBuffer_fire (fr : Frame) (s : State) : (enterBuffer fr s).fire = s.fire := by
  unfold enterBuffer; split <;> rfl

@[simp] theorem enterBuffer_serving (fr : Frame) (s : State) : (enterBuffer fr s).serving = s.serving := by
  unfold enterBuffer; split <;> rfl

@[simp] theorem enterBuffer_waitingFor (fr : Frame) (s : State) : (enterBuffer fr s).waitingFor = s.waitingFor := by
  unfold enterBuffer; split <;> rfl

@[simp] theorem enterBuffer_receiver (fr : Frame) (s : State) : (enterBuffer fr s).receiver = s.receiver := by
  unfold enterBuffer; split <;> rfl

@[simp] theorem enterBuffer_overrun (fr : Frame) (s : State) : (enterBuffer fr s).overrun = s.overrun := by
  unfold enterBuffer; split <;> rfl

@[simp] theorem enterBuffer_discards (fr : Frame) (s : State) : (enterBuffer fr s).discards = s.discards := by
  unfold enterBuffer; split <;> rfl

@[simp] theorem enterBuffer_events (fr : Frame) (s : State) : (enterBuffer fr s).events = s.events := by
  unfold enterBuffer; split <;> rfl

@[simp] theorem enterBuffer_batch (fr : Frame) (s : State) : (enterBuffer fr s).batch = s.batch := by
  unfold enterBuffer; split <;> rfl

@[simp] theorem enterBuffer_stationOut (fr : Frame) (s : State) : (enterBuffer fr s).stationOut = s.stationOut := by
  unfold enterBuffer; split <;> rfl

@[simp] theorem enterBuffer_freeCount (fr : Frame) (s : State) : (enterBuffer fr s).freeCount = s.freeCount := by
  unfold enterBuffer; split <;> rfl

@[simp] theorem enterBuffer_pending (fr : Frame) (s : State) : (enterBuffer fr s).pending = s.pending := by
  unfold enterBuffer; split <;> rfl

/-- The receive buffer keeps its capacity. -/
theorem enterBuffer_bounded (fr : Frame) {s : State} (h : s.rx.length ≤ Config.bufferSize) :
    (enterBuffer fr s).rx.length ≤ Config.bufferSize := by
  unfold enterBuffer
  split
  · rename_i k; simpa using k
  · exact h

/-! ### The examination of a request (R161) -/

@[simp] theorem needLength_true (k : Body) : needLength true k = k := rfl

@[simp] theorem needLength_false (k : Body) : needLength false k = refuse .badLength := rfl

theorem needFace_some {p : List Byte} {f : Face} (h : faceOfByte (p.getD 0 0xFF#8) = some f) (k : Face → Body) :
    needFace p k = k f := by
  unfold needFace; rw [h]

theorem needFace_none {p : List Byte} (h : faceOfByte (p.getD 0 0xFF#8) = none) (k : Face → Body) :
    needFace p k = refuse .badFace := by
  unfold needFace; rw [h]

theorem needConfig_ready {s : State} (h : Configured s) (k : Body) : needConfig k s = k s := by
  simp [needConfig, h.1, h.2]

theorem needConfig_loading {s : State} (h : s.store.load = .loading) (k : Body) :
    needConfig k s = refuse .loading s := by
  simp [needConfig, h]

theorem needConfig_none {s : State} (h : s.store.load = .idle) (v : s.store.valid = false) (k : Body) :
    needConfig k s = refuse .noConfig s := by
  simp [needConfig, h, v]

/-- A request of the right length, for a face, with configuration in force. -/
theorem faceRequest_ready {len : Nat} {p : List Byte} {f : Face} {s : State} (hl : p.length = len)
    (hf : faceOfByte (p.getD 0 0xFF#8) = some f) (hc : Configured s) (k : Face → Body) :
    faceRequest len p k s = k f s := by
  simp [faceRequest, hl, needFace_some hf, needConfig_ready hc]

/-- A reply sent for a body that leaves the flags and the buffer to the link. -/
theorem replied_of_body {fr : Frame} {r : Reply} {s u : State} (hd : u.dropped = s.dropped)
    (ho : s.overrun = true → u.overrun = true) (hr : u.rx = s.rx) (hs : u.stationOut = s.stationOut) :
    Replied fr r.status r.fields s (leaveBuffer (sendReply fr r u)) where
  dropped := rfl
  overrun := rfl
  rx := by simp [leaveBuffer, sendReply, hr]
  sent := ⟨u.overrun, ho, by simp [leaveBuffer, sendReply, State.replyPayload, hs, hd]⟩

/-- The oldest frame held is served. -/
theorem front_atFront {fr : Frame} {s : State} (h : Front fr s) : s.atFront fr = true := by
  unfold Front at h
  simp [State.atFront, h]

/-- A frame other than the oldest is not served. -/
theorem behind_atFront {fr older : Frame} {s : State} (h : Front older s) (k : older ≠ fr) :
    s.atFront fr = false := by
  unfold Front at h
  simp [State.atFront, h, k]

/-- A body that leaves `u` behind, with the buffer as it was, is followed by its reply alone. -/
theorem serve_answer {fr : Frame} {body : Body} {s u : State} {st : Status} {fields : List Byte}
    (h : Front fr s) (hb : body s = (u, ⟨st, fields⟩)) (e : u.rx = s.rx) :
    OnlyReplied fr st fields u (serve fr body s) := by
  rw [serve_front (front_atFront h), hb]
  simp [OnlyReplied, leaveBuffer, sendReply, State.replyPayload, e]

/-- As `serve_answer`, with the state left behind and the reply given apart. -/
theorem serve_onlyReplied {fr : Frame} {body : Body} {s u v : State} {st st' : Status} {fields fields' : List Byte}
    (h : Front fr s) (hb : body s = (v, ⟨st', fields'⟩)) (e : v.rx = s.rx) (hu : v = u) (hs : st' = st)
    (hf : fields' = fields) : OnlyReplied fr st fields u (serve fr body s) := by
  subst hu hs hf
  exact serve_answer h hb e

/-- A refused request changes nothing but the reply's flags and buffer. -/
theorem serve_refuse {fr : Frame} {body : Body} {s : State} {st : Status} (h : Front fr s)
    (hb : body s = refuse st s) : OnlyReplied fr st [] s (serve fr body s) :=
  serve_answer h hb rfl

/-! ### The receiver (R158) -/

theorem gapPassed_hunting {s : State} (h : s.receiver = .hunting) : s.gapPassed = false := by
  simp [State.gapPassed, h]

theorem gapPassed_no {s : State} {bs : List Byte} {last : Time} (h : s.receiver = .inFrame bs last)
    (k : elapsed s.time last ≤ Config.byteGap) : s.gapPassed = false := by
  simp only [State.gapPassed, h]
  exact decide_eq_false (Nat.not_lt.mpr k)

theorem gapPassed_yes {s : State} {bs : List Byte} {last : Time} (h : s.receiver = .inFrame bs last)
    (k : Config.byteGap < elapsed s.time last) : s.gapPassed = true := by
  simp only [State.gapPassed, h]
  exact decide_eq_true k

theorem gather_hunting {s : State} (h : s.receiver = .hunting) (b : Byte) :
    gather b s = if b = 0xA5#8 then { s with receiver := .inFrame [] s.time } else s := by
  unfold gather; rw [h]

theorem gather_inFrame {s : State} {bs : List Byte} {last : Time} (h : s.receiver = .inFrame bs last) (b : Byte) :
    gather b s =
      if Config.maxPayload < ((bs ++ [b]).getD 0 0#8).toNat then discardFrame s
      else if (bs ++ [b]).length = ((bs ++ [b]).getD 0 0#8).toNat + 5 then frameDone (bs ++ [b]) s
      else { s with receiver := .inFrame (bs ++ [b]) s.time } := by
  unfold gather; rw [h]

/-- A byte within the gap is taken by the receiver as it stands. -/
theorem receiveByte_gather {s : State} (h : s.gapPassed = false) (b : Byte) : receiveByte b s = gather b s := by
  simp [receiveByte, h]

/-- A byte after the gap is taken afresh. -/
theorem receiveByte_afresh {s : State} (h : s.gapPassed = true) (b : Byte) :
    receiveByte b s = gather b (discardFrame s) := by
  simp [receiveByte, h]

/-! ### Record lengths (R172) -/

/-- The lengths of a CONSIST record with 1 to 24 entries (R172). -/
theorem entriesFit_eq (base len : Nat) :
    ((List.range 24).map fun e => base + 6 * (e + 1)).contains len = entriesFit base len := by
  rw [Bool.eq_iff_iff, List.contains_iff_mem, List.mem_map, entriesFit, decide_eq_true_eq]
  constructor
  · rintro ⟨e, h, rfl⟩
    rw [List.mem_range] at h
    omega
  · rintro ⟨h, k, m⟩
    exact ⟨(len - base) / 6 - 1, by rw [List.mem_range]; omega, by omega⟩

theorem third_eq (p : List Byte) : (p[2]? = some 1#8) = (byteAt p 2 = 1) := by
  rcases p with _ | ⟨a, _ | ⟨b, _ | ⟨c, p⟩⟩⟩ <;> simp [byteAt, ← BitVec.toNat_inj]

/-- The record lengths laid down are those that the model takes. -/
theorem recordLengthFits_eq (p : List Byte) : recordLengthFits p = recordLengthOk p := by
  rcases p with _ | ⟨kind, rest⟩
  · rfl
  · simp only [recordLengthFits, recordLengths, third_eq, recordLengthOk]
    have num : ∀ c : Byte, kind = c ↔ kind.toNat = c.toNat := fun c => BitVec.toNat_inj.symm
    simp only [num]
    match kind.toNat with
    | 0 => rfl
    | 1 => simp [beq_eq_decide]
    | 2 => simp [beq_eq_decide]
    | 3 => by_cases h : byteAt (kind :: rest) 2 = 1 <;> simp [h, ← entriesFit_eq]
    | 4 => simp [beq_eq_decide]
    | 5 => simp [beq_eq_decide]
    | n + 6 => simp

end Sys2Proof.Machine
end

