-- ==== Sys2Proof/Laws/Orders.lean ====
section
/-!
SUPPORT. What a request's work at its face leaves in the part, and what orders issued to bays change
(R96, R97).
-/

-- One proof after another: side by side their threads' stacks fill the checker's memory.
set_option Elab.async false

namespace Sys2Proof.Machine

open Sys2Proof.Safety

/-! ### Requests that do work at a face -/

/-- What serving a request leaves, whose work at face `f` ends in `v`. -/
structure Worked (f : Face) (fr : Frame) (st : Status) (fields : List Byte) (s v t : State) : Prop where
  leaves : Leaves f s t
  replied : Replied fr st fields s t
  face : ∀ g, t.face g = { v.face g with permit := v.permitComposed g }
  events : v.events <+: t.events
  serving : t.serving = v.serving
  waitingFor : t.waitingFor = v.waitingFor
  state : ∀ g, t.stateOf g = v.stateOf g

/-- A request served whose body does the work and ends its event. -/
theorem serve_work {f : Face} {fr : Frame} {body : Body} {s v : State} {st : Status} {fields : State → List Byte}
    (h : Front fr s) (hb : body s = finish st fields v) (w : Within f s v) :
    Worked f fr st (fields (settle v)) s v (serve fr body s) := by
  have e := serve_front (front_atFront h) body
  rw [hb] at e
  have l := within_leaves_settle w
  rw [e]
  exact
    { leaves :=
        ⟨l.time, l.store, l.fire, l.receiver, l.discards, l.batch, l.freeCount, l.pending, l.other, l.enable,
          l.loop, l.events⟩
      replied :=
        replied_of_body (r := ⟨st, _⟩) (by simp [finish, w.dropped])
          (fun ho => (settle_events v).2.2 (w.overrun ho)) (by simp [finish, w.rx])
          (by simp [finish, w.stationOut])
      face := fun g => settle_face g v
      events := (settle_events v).1
      serving := by simp [finish]
      waitingFor := by simp [finish]
      state := fun g => settle_stateOf g v }

/-- Where the permits are composed already, the end of the event adds nothing. -/
theorem finish_composed {t : State} {st : Status} {fields : State → List Byte} (h : Composed t) :
    finish st fields t = (t, ⟨st, fields t⟩) := by
  simp [finish, settle_composed h]

/-- In a state that may not stand with a permit, none is composed (R153). -/
theorem permitComposed_closed {f : Face} {s : State} (h : (s.stateOf f).mayPermit = false) :
    s.permitComposed f = false := by
  simp [State.permitComposed, h]

/-! ### The next event -/

theorem nextEvent_of {x : EventRecord} {s v t : State} (h : NextEvent x s v) (k : v.events <+: t.events) :
    NextEvent x s t :=
  fun hl => (h hl).trans k

theorem nextEvent_within {x : EventRecord} {f : Face} {s v t : State} (h : NextEvent x s v) (k : Within f v t) :
    NextEvent x s t :=
  nextEvent_of h k.events

/-- An event posted before any other. -/
theorem nextEvent_post (k : EventKind) (f : Option Face) (n : Option Nat) (ds : List Nat) {s v : State}
    (he : v.events = s.events) (ht : v.time = s.time) : NextEvent ⟨k, f, n, s.time, ds⟩ s (post k f n ds v) := by
  intro hl
  unfold post
  rw [if_pos (by rw [he]; exact hl), he, ht]

/-! ### The acceptance test (R69) -/

/-- The test is that of the rule. -/
theorem mayOpen_iff (f : Face) (s : State) : s.mayOpen f = true ↔ MayOpen f s := by
  unfold State.mayOpen MayOpen State.consent Berth.readyOffered
  simp only [Bool.and_eq_true, beq_iff_eq, Bool.or_eq_true, List.all_eq_true, Bool.not_eq_true', and_assoc,
    List.isEmpty_eq_false_iff]
  refine and_congr_right fun _ => and_congr_right fun _ => and_congr ?_ (and_congr_right fun _ => ?_)
  · refine forall_congr' fun n => forall_congr' fun _ => ?_
    cases s.bay f n <;> simp
  · cases (s.face f).berth.present <;> cases (s.face f).berth.latest <;> simp

/-- With no order waiting, or with the test failed, nothing changes. -/
theorem acceptanceTest_none {f : Face} {s : State} (h : (s.face f).seq.slot = none ∨ ¬MayOpen f s) :
    acceptanceTest f s = s := by
  unfold acceptanceTest
  split
  · rfl
  · rename_i id hid
    rcases h with h | h
    · rw [h] at hid; cases hid
    · rw [if_neg (by rw [mayOpen_iff]; exact h)]

/-! ### Bay entries -/

/-- A bay's entry after a change of one entry. -/
theorem bay_modBay (f : Face) (m n : Nat) (g : BayEntry → BayEntry) (hg : ∀ e, (g e).num = e.num) (s : State) :
    (modBay f m g s).bay f n = (s.bay f n).map fun e => if e.num = m then g e else e := by
  unfold State.bay
  rw [modBay_face]
  simp only []
  rw [List.find?_map]
  congr 1
  congr 1
  funext e
  simp only [Function.comp]
  split <;> simp [hg]

theorem bay_num {f : Face} {n : Nat} {s : State} {e : BayEntry} (h : s.bay f n = some e) : e.num = n := by
  unfold State.bay at h
  simpa using List.find?_some h

@[simp] theorem bay_place (f : Face) (x : DispatchEntry) (n : Nat) (s : State) :
    (place f x s).bay f n = s.bay f n := by
  cases f <;> rfl

/-! ### Orders issued (R97) -/

/-- What an order issued leaves as it was at its face. -/
structure Issued (f : Face) (s t : State) : Prop where
  seq : (t.face f).seq = (s.face f).seq
  berth : (t.face f).berth = (s.face f).berth
  meas : (t.face f).meas = (s.face f).meas
  sensing : (t.face f).sensing = (s.face f).sensing
  release : (t.face f).release = (s.face f).release
  fault : (t.face f).fault = (s.face f).fault
  loop : (t.face f).loop = (s.face f).loop
  gap : (t.face f).bus.gap = (s.face f).bus.gap
  events : t.events = s.events
  time : t.time = s.time
  store : t.store = s.store

theorem Issued.then {f : Face} {s t u : State} (h : Issued f s t) (k : Issued f t u) : Issued f s u :=
  ⟨k.seq.trans h.seq, k.berth.trans h.berth, k.meas.trans h.meas, k.sensing.trans h.sensing,
    k.release.trans h.release, k.fault.trans h.fault, k.loop.trans h.loop, k.gap.trans h.gap,
    k.events.trans h.events, k.time.trans h.time, k.store.trans h.store⟩

theorem issued_issue (f : Face) (n : Nat) (o : BayOrder) (s : State) : Issued f s (issue f n o s) := by
  unfold issue
  split
  · exact ⟨rfl, rfl, rfl, rfl, rfl, rfl, rfl, rfl, rfl, rfl, rfl⟩
  · split <;> cases f <;> exact ⟨rfl, rfl, rfl, rfl, rfl, rfl, rfl, rfl, rfl, rfl, rfl⟩

theorem issued_issueAll (f : Face) (o : BayOrder) (ns : List Nat) (s : State) :
    Issued f s (issueAll f o ns s) := by
  unfold issueAll
  induction ns generalizing s with
  | nil => exact ⟨rfl, rfl, rfl, rfl, rfl, rfl, rfl, rfl, rfl, rfl, rfl⟩
  | cons n ns ih => exact (issued_issue f n o s).then (ih _)

/-- An order goes into the in-flight slot of a free bay, and else into its waiting slot. -/
theorem issue_bay (f : Face) (m n : Nat) (o : BayOrder) (s : State) :
    (issue f m o s).bay f n = (s.bay f n).map fun e =>
      if n = m then
        if e.inFlight = none ∧ e.busyHold = false then { e with inFlight := some o } else { e with waiting := some o }
      else e := by
  unfold issue
  cases hm : s.bay f m with
  | none =>
    simp only []
    by_cases hn : n = m
    · subst hn; rw [hm]; rfl
    · simp [hn]
  | some e0 =>
    simp only []
    by_cases hc : e0.inFlight = none ∧ e0.busyHold = false
    · rw [if_pos hc, bay_place, bay_modBay _ _ _ _ (by intro; rfl)]
      cases hn : s.bay f n with
      | none => rfl
      | some e =>
        have := bay_num hn
        by_cases hnm : n = m
        · subst hnm; rw [hm] at hn; cases hn; simp [this, hc]
        · simp [this, hnm]
    · rw [if_neg hc, bay_modBay _ _ _ _ (by intro; rfl)]
      cases hn : s.bay f n with
      | none => rfl
      | some e =>
        have := bay_num hn
        by_cases hnm : n = m
        · subst hnm; rw [hm] at hn; cases hn
          simp only [Option.map_some, this, if_true]
          rw [if_neg hc]
        · simp [this, hnm]

/-- Orders issued change a bay's two slots alone, and each bay of the list then holds the order in one. -/
theorem issueAll_bay (f : Face) (o : BayOrder) (ns : List Nat) (s : State) (n : Nat) (e' : BayEntry)
    (h : (issueAll f o ns s).bay f n = some e') :
    ∃ e, s.bay f n = some e ∧ { e' with inFlight := e.inFlight, waiting := e.waiting } = e
      ∧ (n ∈ ns ∨ (e.inFlight = some o ∨ e.waiting = some o) → e'.inFlight = some o ∨ e'.waiting = some o) := by
  unfold issueAll at h
  induction ns generalizing s with
  | nil => exact ⟨e', h, rfl, by simp⟩
  | cons m ns ih =>
    rw [List.foldl_cons] at h
    obtain ⟨e1, h1, h2, h3⟩ := ih _ h
    rw [issue_bay] at h1
    cases hn : s.bay f n with
    | none => rw [hn] at h1; cases h1
    | some e =>
      rw [hn] at h1
      simp only [Option.map_some, Option.some.injEq] at h1
      refine ⟨e, rfl, ?_, ?_⟩
      · subst h1
        refine (congrArg (fun x : BayEntry => { x with inFlight := e.inFlight, waiting := e.waiting }) h2).trans ?_
        split
        · split <;> rfl
        · rfl
      · intro hh
        apply h3
        by_cases hm : n = m
        · right
          subst hm
          rw [if_pos rfl] at h1
          subst h1
          split
          · left; rfl
          · right; rfl
        · rw [if_neg hm] at h1
          subst h1
          rcases hh with hh | hh
          · rcases List.mem_cons.mp hh with hh | hh
            · exact absurd hh hm
            · exact .inl hh
          · exact .inr hh

end Sys2Proof.Machine
end

