-- ==== Sys2Proof/Laws/Events.lean ====
section
/-!
SUPPORT. Small lemmas for the events of the bus and of the deadlines: what the passing of time leaves,
one turn of a master, and the open answer window.
-/

-- One proof after another: side by side their threads' stacks fill the checker's memory.
set_option Elab.async false

namespace Sys2Proof.Machine

open Sys2Proof.Safety

/-! ### The passing of time -/

theorem composed_elapse {s : State} (h : Composed s) (n : Nat) : Composed (elapse n s) := by
  intro e
  rw [permitComposed_of (s := s) (by simp) (by simp) (by simp [State.params, State.cfg]) (by simp)]
  simpa using h e

theorem composed_advanceTo {s : State} (h : Composed s) (d : Time) : Composed (advanceTo d s) := by
  rcases advanceTo_elapse d s with k | ⟨n, k⟩ <;> rw [k]
  · exact h
  · exact composed_elapse h n

theorem advanceTo_params (d : Time) (s : State) (f : Face) : (advanceTo d s).params f = s.params f := by
  simp [State.params, State.cfg]

/-- A field of the face record other than the hold record does not change while time passes. -/
theorem advanceTo_seqField {α : Type} (g : FaceRecord → α) (hg : ∀ r, g r = g { r with hold := none }) (d : Time)
    (f : Face) (s : State) : g ((advanceTo d s).face f).seq = g (s.face f).seq := by
  rw [hg, advanceTo_seq, ← hg]

/-! ### One turn (R96) -/

theorem modBus_modBus (f : Face) (g h : Bus → Bus) (s : State) :
    modBus f g (modBus f h s) = modBus f (fun b => g (h b)) s := by
  cases f <;> rfl

theorem modBus_congr {f : Face} {g h : Bus → Bus} {s : State} (k : g (s.face f).bus = h (s.face f).bus) :
    modBus f g s = modBus f h s := by
  simp only [modBus, modFace, k]

/-- A turn with a bay to poll and nothing outstanding serves the gap that the turn before it left. -/
theorem execTurn_start {f : Face} {s : State} {n : Nat} (hc : (s.face f).bus.cursor = some n)
    (ho : (s.face f).bus.outstanding = none) :
    exec (.turn f) s = .next (serveGap f (s.face f).bus.gap (modBus f (fun b => { b with turning := true }) s)) := by
  simp [exec, execTurn, beginTurn, hc, ho]

/-! ### The open window (R91) -/

theorem inWindow_iff {tr : Trans} {s : State} : InWindow tr s ↔ laterThan s.time tr.windowEnd = false := by
  rw [laterThan, decide_eq_false_iff_not, elapsed, InWindow]
  omega

/-- An answer reaches the outstanding transaction exactly while it begins within the transaction's window. -/
theorem windowOpen_eq_some {f : Face} {tr : Trans} {s : State} :
    s.windowOpen f = some tr ↔ (s.face f).bus.outstanding = some tr ∧ InWindow tr s := by
  simp [State.windowOpen, Option.filter_eq_some_iff, inWindow_iff]

/-- No transaction has an open window exactly where none is outstanding, or its window is over. -/
theorem windowOpen_eq_none {f : Face} {s : State} :
    s.windowOpen f = none ↔ ∀ tr, (s.face f).bus.outstanding = some tr → ¬InWindow tr s := by
  simp [State.windowOpen, Option.filter_eq_none_iff, inWindow_iff]

end Sys2Proof.Machine
end

