-- ==== Sys2Proof/Tests/Slice0.lean ====
section
/-!
SUPPORT. Our own tests: ill-formed terms that the checks refuse, the worked cases of the spec (sections 3.11,
3.12, 4.11, 6.8, 6.9, 7.8 and R171), small tests of single commands, and for every statement with hypotheses
a state and operands that meet them.
-/

-- One proof after another: side by side their threads' stacks fill the checker's memory.
set_option Elab.async false

namespace Sys2Proof.Tests

open Sys2Proof.Machine Sys2Proof.Safety

/-! ### WellFormed refuses -/

theorem test_wf_refuses_long_payload : (Instr.identify 0#8 (List.replicate 241 0#8)).wf = false := by decide +kernel

theorem test_wf_refuses_first_part_as_continuation :
    (Instr.consistContinuation 0#8 [7#8, 1#8]).wf = false := by decide

theorem test_wf_refuses_known_record_kind : (Instr.loadRecordUnknownKind 0#8 [5#8]).wf = false := by decide

theorem test_wf_refuses_set_flag_in_plain_end : (Instr.loadEnd 0#8 [1#8]).wf = false := by decide

theorem test_wf_refuses_clear_flag_in_early_end : (Instr.loadEndEarly 0#8 [0#8]).wf = false := by decide

theorem test_wf_refuses_set_flag_in_plain_fetch : (Instr.fetchEvents 0#8 [2#8]).wf = false := by decide

theorem test_wf_refuses_clear_flag_in_repeat : (Instr.fetchEventsRepeat 0#8 [0#8]).wf = false := by decide

theorem test_wf_refuses_known_request_kind : (Instr.unknownKind 0x1D#8 0#8 []).wf = false := by decide

theorem test_wf_refuses_thirteen_strengths :
    (Instr.strengthReading .a (List.replicate 13 0#10)).wf = false := by decide

theorem test_wf_refuses_bay_32 : (Instr.lockProofDeadline .a 32).wf = false := by decide

theorem test_wf_accepts_request_of_each_length : (Instr.openOrder 1#8 [0#8, 42#8]).wf = true := by decide

theorem test_table_spells_no_word : decodeTableWord 8 0 = none := rfl

/-! ### The checks (R171) -/

/-- The check over the characters 1 to 9, as R171 gives it. -/
theorem test_crc_of_the_nine_digits :
    crc16 [0x31#8, 0x32#8, 0x33#8, 0x34#8, 0x35#8, 0x36#8, 0x37#8, 0x38#8, 0x39#8] = 0x29B1#16 := by decide +kernel

/-- A frame with its 8-bit check sums to 0. -/
theorem test_bus_frame_sums_to_zero : sum8 (withCheck8 [0xC1#8, 0xA0#8]) = 0#8 := by decide

/-! ### The worked measurement (sections 3.11 and 3.12) -/

/-- Face A's loop cells of section 3.11. -/
def cellsOfA : List Cell := (List.range 12).map fun i => ⟨i, 112000 + 1500 * i⟩

/-- Face A's bays of section 3.11. -/
def baysOfA : List BayGeometry :=
  [⟨10, 93000, 95300, true, true, true⟩, ⟨11, 95500, 97600, true, true, true⟩,
   ⟨12, 97800, 99700, true, true, true⟩, ⟨13, 99900, 101800, true, true, true⟩,
   ⟨14, 102000, 104100, true, true, true⟩, ⟨15, 104300, 106800, true, true, true⟩,
   ⟨16, 107000, 109400, true, true, true⟩, ⟨17, 109600, 111700, true, true, true⟩,
   ⟨18, 111900, 114000, true, true, true⟩, ⟨19, 114200, 116100, true, true, true⟩,
   ⟨20, 116300, 118400, true, true, true⟩, ⟨21, 118600, 120700, true, true, true⟩]

/-- Consist 7 of section 3.11. -/
def doorsOf7 : List Door := [⟨2000, 1300⟩, ⟨9200, 1300⟩, ⟨16400, 1300⟩, ⟨23600, 1300⟩]

def consist7 : Consist := ⟨7, 26000, 1500, 4, doorsOf7⟩

def configOfA : FaceConfig := { bays := baysOfA, cells := cellsOfA, stops := [⟨7, 120000, 300⟩] }

theorem test_first_sample :
    judge cellsOfA 240 1500
      [60#10, 60#10, 60#10, 150#10, 800#10, 320#10, 60#10, 60#10, 60#10, 60#10, 60#10, 60#10]
      = .valid 119928 := by decide

/-- Face B's ghost and its first valid sample (section 3.12). -/
theorem test_ghost_sample :
    judge ((List.range 8).map fun i => ⟨i, 40000 + 2000 * i⟩) 240 2500
      [40#10, 330#10, 40#10, 40#10, 420#10, 610#10, 300#10, 40#10] = .ghost := by decide

theorem test_truncated_offset :
    judge ((List.range 8).map fun i => ⟨i, 40000 + 2000 * i⟩) 240 2500
      [50#10, 50#10, 50#10, 50#10, 350#10, 700#10, 140#10, 50#10] = .valid 51834 := by decide

theorem test_restarted_run : runAfter [51834, 51852] (.valid 51910) = [51910] := by decide

/-- The record's lists with the allowance off, and with bay 14 isolated. -/
theorem test_sets_of_the_worked_case :
    let m := withFront configOfA doorsOf7 (fun _ => false) 119929 { mark := some 120000, tolerance := some 300 }
    m.error = some (-71) ∧ m.verdict = some .onMark ∧ m.grant = [14, 20] ∧ m.doorList = [1, 3]
      ∧ m.evacuation = [11, 14, 17, 20] ∧ m.evacDoors = [1, 2, 3, 4] := by decide

theorem test_sets_with_bay_14_isolated :
    let m := withFront configOfA doorsOf7 (fun n => n == 14) 119929 { mark := some 120000, tolerance := some 300 }
    m.grant = [20] ∧ m.doorList = [1] ∧ m.evacuation = [11, 17, 20] ∧ m.evacDoors = [1, 2, 4] := by decide

/-! ### The worked sensing (sections 6.8 and 6.9) -/

/-- Rows 1, 2, 3, 5, 6, 3, 4, 5 and 6 in turn. -/
theorem test_gap_of_the_worked_case :
    let take := fun (q : GapQualifier) (x : Nat × Bool × Nat) => (q.take 300 x.2.1 x.2.2 (BitVec.ofNat 32 x.1)).1
    let q : GapQualifier := { lastCount := some 6 }
    let q := [(300000, false, 6), (300180, false, 8), (300360, true, 9), (300540, true, 9)].foldl take q
    let u := [(300720, true, 9)].foldl take q
    let v := [(300900, false, 10), (301080, false, 12), (301260, false, 12)].foldl take u
    q = ⟨false, some 300360#32, some 9, none⟩ ∧ u = ⟨true, none, some 9, some 300720#32⟩
      ∧ v = ⟨true, some 301080#32, some 12, some 300720#32⟩
      ∧ [(301440, false, 12)].foldl take v = ⟨false, none, some 12, some 301440#32⟩ := by decide

/-- The seven reports of bay 20. -/
theorem test_passages_of_the_worked_case :
    let take := fun (x : Decoder × Option Time) (y : Nat × List BeamEvent) =>
      x.1.take 600 (BitVec.ofNat 32 y.1) x.2 y.2
    let x := [(210000, [⟨.a, false, 350⟩, ⟨.b, false, 120⟩]), (210180, [⟨.a, true, 150⟩, ⟨.b, true, 40⟩])].foldl
      take ({}, none)
    let y := [(210360, [⟨.b, false, 160⟩, ⟨.a, false, 100⟩]), (210540, [⟨.b, true, 200⟩, ⟨.a, true, 90⟩])].foldl
      take x
    let z := [(210720, [⟨.a, false, 150⟩, ⟨.a, true, 30⟩]), (211800, [⟨.a, false, 1023⟩, ⟨.b, false, 200⟩])].foldl
      take y
    (x.1.boarded, x.1.alighted, x.2) = (1, 0, some 210140#32)
      ∧ (y.1.boarded, y.1.alighted, y.2) = (1, 1, some 210450#32)
      ∧ (z.1.discarded, z.1.brokenA, z.1.brokenB, z.2) = (2, true, true, some 210450#32) := by decide


/-! ### States to test on -/

/-- A closed bay with its lock proven, and an open one. -/
def lockedReport : Report := ⟨.closed, true, false, false, false, 0, [], false⟩

def openReport : Report := ⟨.opened, false, false, false, false, 0, [], false⟩

/-- Face A's Bay Table, the named bays standing open. -/
def baysWith (openBays : List Nat) : List BayEntry :=
  baysOfA.map fun g =>
    { num := g.num
      report := some (if openBays.contains g.num then openReport else lockedReport, 0#32)
      granted := g.num == 14 || g.num == 20
      gap := some {}
      beams := some {} }

def storeOfA : Store :=
  { valid := true, consists := [consist7], cfg := ⟨configOfA, configOfA⟩, broughtIn := ⟨true, true⟩ }

/-- The train of section 3.11 as its beacon shows it. -/
def standing : Beacon := ⟨7#8, 901#16, false, true, true, false⟩

/-- The record of section 3.11. -/
def recordOfA : Measurement :=
  withFront configOfA doorsOf7 (fun _ => false) 119929
    { status := .current, consist := some 7, source := some .train, antenna := some 1500, mark := some 120000
      tolerance := some 300 }

/-- Face A in a state with some bays open and its train beside it. -/
def faceIn (st : FaceState) (openBays : List Nat) : State :=
  modFace .a
    (fun b =>
      { b with
        seq := { b.seq with state := st, dwell := some ⟨25, 0, 5⟩, grant := [14, 20] }
        berth :=
          { b.berth with
            present := true, latest := some standing, lastGood := some 0#32, consist := some (7, .train) }
        meas := recordOfA
        bays := baysWith openBays
        bus := { b.bus with cursor := some 10 }
        enable := ⟨true, true, none⟩ })
    { State.reset with store := storeOfA }

/-- At the end of an event, with nothing queued. -/
def calm (s : State) : State := { settle s with events := [] }

/-- As `calm`, with one request's frame in the receive buffer. -/
def asked (kind tag : Byte) (p : List Byte) (s : State) : State :=
  { settle s with events := [], rx := [⟨kind, tag, p⟩] }

/-- The state that a command leaves. -/
def after (c : Instr) (s : State) : State :=
  match exec c s with
  | .next t => t
  | _ => s

theorem calm_composed (s : State) : Composed (calm s) := fun f => settle_permit f s

theorem asked_composed (kind tag : Byte) (p : List Byte) (s : State) : Composed (asked kind tag p s) :=
  fun f => settle_permit f s

theorem asked_front (kind tag : Byte) (p : List Byte) (s : State) : Front ⟨kind, tag, p⟩ (asked kind tag p s) := rfl

theorem asked_configured (kind tag : Byte) (p : List Byte) {s : State} (h : Configured s) :
    Configured (asked kind tag p s) := by
  simpa [Configured, asked] using h

theorem faceIn_configured (st : FaceState) (openBays : List Nat) : Configured (faceIn st openBays) := ⟨rfl, rfl⟩

/-- A load is open. -/
def loadingState : State := { State.reset with store := { storeOfA with load := .loading, valid := false } }

/-! ### Single commands -/

/-- Section 4.11: the order of 150,000 waits, and is accepted at a berthed face. -/
theorem test_open_order_waits :
    let t := after (.openOrder 1#8 [0#8, 42#8]) (asked 0x0F#8 1#8 [0#8, 42#8] (faceIn .empty []))
    (t.face .a).seq.slot = some 42#8 ∧ t.stateOf .a = .empty := by decide +kernel

theorem test_open_order_opens :
    let t := after (.openOrder 1#8 [0#8, 42#8]) (asked 0x0F#8 1#8 [0#8, 42#8] (faceIn .berthed []))
    t.stateOf .a = .opening ∧ (t.face .a).berth.doorList = [1, 3] := by decide +kernel

/-- R162: an order id of 0 is refused with BAD_ID, 0x14, wherever it stands. -/
theorem test_withdraw_order_zero :
    let s := modSeq .a (fun r => { r with slot := some 42#8 }) (faceIn .arriving [])
    let t := after (.withdrawOrder 1#8 [0#8, 0#8]) (asked 0x10#8 1#8 [0#8, 0#8] s)
    t.stationOut.getLast?.map (·.getD 4 0#8) = some 0x14#8 ∧ (t.face .a).seq.slot = some 42#8 := by
  decide +kernel

theorem test_withdraw_order :
    let s := modSeq .a (fun r => { r with slot := some 42#8 }) (faceIn .arriving [])
    ((after (.withdrawOrder 1#8 [0#8, 42#8]) (asked 0x10#8 1#8 [0#8, 42#8] s)).face .a).seq.slot = none := by
  decide +kernel

theorem test_close_order_warns :
    let t := after (.closeOrder 1#8 [0#8]) (asked 0x11#8 1#8 [0#8] (faceIn .opened [14, 20]))
    t.stateOf .a = .closing ∧ (t.face .a).seq.endOfWarning = some 3000#32 := by decide +kernel

theorem test_remeasure_samples :
    let t := after (.remeasure 1#8 [0#8]) (asked 0x12#8 1#8 [0#8] (faceIn .berthed []))
    t.serving = some .a ∧ (t.face .a).meas.status = .sampling := by decide +kernel

theorem test_dwell_set_clamps :
    let t := after (.dwellSet 1#8 [0#8, 0#8, 200#8, 1#8, 0#8, 1#8])
      (asked 0x13#8 1#8 [0#8, 0#8, 200#8, 1#8, 0#8, 1#8] (faceIn .opened [14]))
    (t.face .a).seq.dwell = some ⟨180, 1, 2⟩ ∧ (t.face .a).seq.dwellDeadline = some 180000#32 := by
  decide +kernel

/-- Section 4.11 at 201,000. -/
theorem test_connect_hold :
    let p : List Byte := [0#8, 0#8, 20#8, 0#8, 60#8]
    ((after (.connectHold 1#8 p) (asked 0x14#8 1#8 p (faceIn .berthed []))).face .a).seq.hold
      = some ⟨20, 60, 0, none, none⟩ := by decide +kernel

theorem test_connect_cancel :
    let s := modSeq .a (fun r => { r with hold := some ⟨20, 60, 0, none, none⟩ }) (faceIn .berthed [])
    ((after (.connectCancel 1#8 [0#8]) (asked 0x15#8 1#8 [0#8] s)).face .a).seq.hold = none := by decide +kernel

theorem test_isolate_bay :
    ((after (.isolateBay 1#8 [0#8, 14#8]) (asked 0x16#8 1#8 [0#8, 14#8] (faceIn .held []))).bay .a 14).map (·.isolated)
      = some true := by decide +kernel

theorem test_expect_consist :
    ((after (.expectConsist 1#8 [0#8, 0#8, 9#8]) (asked 0x0E#8 1#8 [0#8, 0#8, 9#8] (faceIn .empty []))).face
      .a).berth.staged = some ⟨9, none⟩ := by decide +kernel

theorem test_mask_leaves_release_out :
    ((after (.faultMask 1#8 [0#8, 0x7F#8]) (asked 0x18#8 1#8 [0#8, 0x7F#8] (faceIn .empty []))).face .a).fault.mask
      = 0x3F#7 := by decide +kernel

theorem test_resume_surveys :
    (after (.faceResume 1#8 [0#8]) (asked 0x1A#8 1#8 [0#8] (faceIn .held []))).stateOf .a = .survey := by
  decide +kernel

/-- Section 7.8: STATION calls for the evacuation opening of the worked record. -/
theorem test_emergency_open_evacuates :
    let t := after (.emergencyOpen 1#8 [0#8]) (asked 0x1B#8 1#8 [0#8] (faceIn .closedLocked []))
    t.stateOf .a = .released ∧ (t.face .a).release.opened = [11, 14, 17, 20]
      ∧ (t.face .a).berth.doorList = [1, 2, 3, 4] := by decide +kernel

/-- Section 7.8 at 425,000. -/
theorem test_release_reset_recovers :
    let s := modRelease .a (fun r => { r with phase := .holding }) (faceIn .released [11, 14, 17, 20])
    let t := after (.releaseReset 1#8 [0#8]) (asked 0x1C#8 1#8 [0#8] s)
    (t.face .a).release.phase = .recovering ∧ t.baysIn .a .waiting = [11, 14, 17, 20] := by decide +kernel

/-- Section 7.8 at 300,020: the contact breaks and the face is RELEASED with LOOP first, nothing opened. -/
theorem test_loop_releases :
    let s := modFace .a (fun b => { b with loop := ⟨false, true, some 0#32⟩ }) (faceIn .opened [14, 20])
    let t := after (.lineFilterExpiry (.loop .a)) (calm s)
    t.time = 20#32 ∧ t.stateOf .a = .released ∧ (t.face .a).release.first = some (.loop, none)
      ∧ (t.face .a).release.opened = [] := by decide +kernel

theorem test_line_candidate :
    ((after (.lineInputChange (.enable .a) false) (calm (faceIn .empty []))).face .a).enable
      = ⟨false, true, some 0#32⟩ := by decide +kernel

/-- Section 4.11 at 203,400: READY TO OPEN yes accepts the waiting order. -/
theorem test_ready_beacon_opens :
    let s := modSeq .a (fun r => { r with slot := some 42#8 })
      (modBerth .a (fun b => { b with latest := some { standing with ready := false } }) (faceIn .berthed []))
    let t := after (.beacon .a (withCheck16 [0xB1#8, 7#8, 3#8, 0x85#8, 0x0E#8])) (calm s)
    t.stateOf .a = .opening ∧ (t.face .a).seq.lastAccepted = some 42#8 := by decide +kernel

theorem test_moving_train_arrives :
    let s := modBerth .a (fun b => { b with present := false, latest := none }) (faceIn .empty [])
    (after (.beacon .a (withCheck16 [0xB1#8, 7#8, 3#8, 0x85#8, 0x05#8])) (calm s)).stateOf .a = .arriving := by
  decide +kernel

theorem test_link_lost_holds :
    let t := after (.linkBecomesLost .a) (calm (faceIn .berthed []))
    t.time = 500#32 ∧ t.stateOf .a = .held := by decide +kernel

/-- The fourth sample of section 3.11 fills the run. -/
theorem test_fourth_sample_berths :
    let s :=
      { modMeas .a
          (fun m => { m with status := .sampling, samples := 3, run := [119928, 119941, 119915] })
          (faceIn .measuring []) with
        serving := some .a }
    let t := after (.strengthReading .a [60#10, 60#10, 60#10, 155#10, 803#10, 327#10]) (calm s)
    t.stateOf .a = .berthed ∧ (t.face .a).meas.front = some 119929 ∧ t.serving = none := by decide +kernel

theorem test_turn_polls :
    (after (.turn .a) (calm (faceIn .empty []))).faces.a.bus.outstanding
      = some ⟨.poll 10 false, false, 3#32⟩ := by decide +kernel

/-- A turn first sends the order that stood on the list when the turn before it ended. -/
theorem test_turn_sends_order :
    let s := modBus .a (fun b => { b with gap := [.unicast 14 .openLeaf], dispatch := [.followUp 10] }) (faceIn .opening [])
    let b := ((after (.turn .a) (calm s)).face .a).bus
    b.outstanding = some ⟨.order 14 .openLeaf, false, 3#32⟩ ∧ b.dispatch = [.followUp 10] := by decide +kernel

/-- An answer that begins 1 ms after the window's end is ignored. -/
theorem test_late_answer_is_ignored :
    let s := { modBus .a (fun b => { b with outstanding := some ⟨.poll 14 false, false, 3#32⟩ }) (faceIn .empty []) with
      time := 4#32 }
    ((after (.reportAnswer .a (withCheck8 ([0xD4#8, 14#8] ++ reportBytes openReport))) (calm s)).bay .a 14).map
      (·.report) = some (some (lockedReport, 0#32)) := by decide +kernel

def polling (n : Nat) (s : State) : State :=
  modBus .a (fun b => { b with outstanding := some ⟨.poll n false, false, 3#32⟩ }) s

/-- The answer frame that carries a report. -/
def answerOf (n : Nat) (r : Report) : List Byte := withCheck8 ([0xD4#8, BitVec.ofNat 8 n] ++ reportBytes r)

/-- Section 4.11 at 276,700: the last bay locks and the closing ends. -/
theorem test_last_lock_ends_the_closing :
    let s := modSeq .a
      (fun r =>
        { r with
          closingKind := some .normal
          closing := r.closing ++ [⟨14, .sent, 1, some 9000#32, false, true, none⟩] })
      (faceIn .closing [14])
    (after (.reportAnswer .a (answerOf 14 lockedReport)) (calm (polling 14 s))).stateOf .a = .closedLocked := by
  decide +kernel

/-- Section 7.8 at 300,140: a pulled handle joins a RELEASED face's causes. -/
theorem test_pulled_handle :
    ((after (.reportAnswer .a (answerOf 17 { lockedReport with pulled := true }))
      (calm (polling 17 (faceIn .released [])))).face .a).release.pulled = [17] := by decide +kernel

/-- An order placed, its turn's end past, and the next turn begun: the order is outstanding. -/
def ordering (n : Nat) (o : BayOrder) (s : State) : State :=
  after (.turn .a) (calm (endTurn .a (issue .a n o s)))

theorem test_ack_empties_the_slot :
    ((after (.ack .a (withCheck8 [0xD1#8, 14#8])) (calm (ordering 14 .openLeaf (faceIn .opening [])))).bay .a 14).map
      (fun e => (e.inFlight, e.waiting)) = some (none, none) := by decide +kernel

theorem test_busy_holds_the_bay :
    ((after (.busy .a (withCheck8 [0xD2#8, 14#8])) (calm (ordering 14 .openLeaf (faceIn .opening [])))).bay .a 14).map
      (fun e => (e.inFlight, e.waiting, e.busyHold)) = some (none, some .openLeaf, true) := by decide +kernel

theorem test_window_repeats :
    ((after (.answerWindowClosed .a) (calm (polling 10 (faceIn .empty [])))).face .a).bus.outstanding
      = some ⟨.poll 10 false, true, 6#32⟩ := by decide +kernel

theorem test_third_miss_silences :
    let s := modBus .a (fun b => { b with outstanding := some ⟨.poll 10 false, true, 3#32⟩ })
      (modBay .a 10 (fun e => { e with miss := 2 }) (faceIn .empty []))
    let t := after (.answerWindowClosed .a) (calm s)
    (t.bay .a 10).map (·.silent) = some true ∧ t.stateOf .a = .held := by decide +kernel

theorem test_query_answered_halves :
    let s := modBus .a (fun b => { b with outstanding := some ⟨.query 5 0, false, 3#32⟩ }) (faceIn .empty [])
    ((after (.attentionQueryAnswer .a true) (calm s)).face .a).bus.search = .lower 0 4 := by decide +kernel

/-- Section 4.11 at 232,300 and 237,300. -/
def dwelling (hold : Option HoldRecord) : State :=
  modFace .a
    (fun b =>
      { b with
        seq :=
          { b.seq with
            substate := some .dwell, dwell := some ⟨25, 1, 5⟩, dwellDeadline := some 237300#32, hold := hold }
        sensing := { lastPassage := some 231200#32, clearedAt := none } })
    { faceIn .opened [14, 20] with time := 232300#32 }

theorem test_first_expiry_extends :
    let s := modSeq .a (fun r => { r with dwellDeadline := some 232300#32 }) (dwelling (some ⟨20, 60, 13000, none, none⟩))
    ((after (.dwellExpiry .a) (calm s)).face .a).seq.dwellDeadline = some 237300#32 := by decide +kernel

theorem test_second_expiry_waits :
    let t := after (.dwellExpiry .a) (calm (dwelling (some ⟨20, 60, 13000, none, none⟩)))
    (t.face .a).seq.substate = some .connectionWait
      ∧ ((t.face .a).seq.hold.bind (·.capDeadline)) = some 297300#32 := by decide +kernel

/-- Section 4.11 at 267,000 and, had the train come later, at 297,300. -/
def connecting : State :=
  modSeq .a
    (fun r =>
      { r with substate := some .connectionWait, hold := some ⟨20, 60, 13000, none, some 297300#32⟩ })
    (modSeq .b (fun r => { r with state := .opened }) { faceIn .opened [14, 20] with time := 260000#32 })

theorem test_minimum_closes :
    let t := after (.minimumReached .a) (calm connecting)
    t.time = 267000#32 ∧ t.stateOf .a = .closing ∧ t.baysIn .a .waiting = [14, 20]
      ∧ (t.face .a).seq.endOfWarning = some 270000#32 := by decide +kernel

theorem test_cap_closes :
    let t := after (.capDeadline .a) (calm (modSeq .b (fun r => { r with state := .closedLocked }) connecting))
    t.time = 297300#32 ∧ t.stateOf .a = .closing
      ∧ (t.events.map fun x => (x.kind, x.details)) = [(.connectionMissed, [13]), (.closing, [1])] := by
  decide +kernel

theorem test_open_travel_holds :
    let s := modSeq .a (fun r => { r with openTravel := some 6000#32 }) (faceIn .opening [20])
    let t := after (.openTravelDeadline .a) (calm s)
    t.stateOf .a = .held ∧ (t.face .a).seq.failed = [14] := by decide +kernel

/-- A closing at face A with entries for bays 14 and 20. -/
def closingWith (x y : ClosingEntry) : State :=
  modSeq .a
    (fun r =>
      { r with
        closingKind := some .normal
        closing := [x, y]
        endOfWarning := some 270000#32
        doorway := some 274000#32 })
    { faceIn .closing [14, 20] with time := 270000#32 }

/-- Section 4.11 at 270,000. -/
theorem test_end_of_warning :
    let s := modBay .a 20 (fun e => { e with beams := some { brokenA := true } })
      (closingWith ⟨14, .waiting, 0, none, false, false, none⟩ ⟨20, .waiting, 0, none, false, false, none⟩)
    let t := after (.endOfWarning .a) (calm s)
    t.baysIn .a .sent = [14] ∧ t.baysIn .a .doorway = [20] ∧ (t.face .a).seq.doorway = some 274000#32 := by
  decide +kernel

theorem test_doorway_deadline :
    let t := after (.doorwayDeadline .a)
      (calm (closingWith ⟨14, .sent, 0, none, false, false, none⟩ ⟨20, .doorway, 0, none, false, false, none⟩))
    t.time = 274000#32 ∧ t.baysIn .a .sent = [14, 20] := by decide +kernel

theorem test_pause_end_closes :
    let t := after (.reopenPauseEnd .a 14)
      (calm (closingWith ⟨14, .pause, 1, some 273900#32, false, false, none⟩ ⟨20, .locked, 0, none, false, false, none⟩))
    t.time = 273900#32 ∧ t.entry .a 14 = some ⟨14, .sent, 1, none, false, false, some 279900#32⟩ := by decide +kernel

theorem test_travel_limit_obstructs :
    let t := after (.closeTravelLimit .a 14)
      (calm (closingWith ⟨14, .sent, 3, none, false, false, some 276000#32⟩ ⟨20, .locked, 0, none, false, false, none⟩))
    t.stateOf .a = .held ∧ (t.entry .a 14).map (·.phase) = some .left := by decide +kernel

theorem test_lock_proof_holds :
    let t := after (.lockProofDeadline .a 14)
      (calm (closingWith ⟨14, .sent, 0, some 274100#32, false, true, none⟩ ⟨20, .locked, 0, none, false, false, none⟩))
    t.stateOf .a = .held ∧ (t.face .a).fault.flags.lock = some ⟨some 14, 274100#32⟩ := by decide +kernel

/-- R158 and R159, byte by byte: IDENTIFY with tag 5 enters the buffer. -/
theorem test_bytes_make_a_frame :
    runAll ((stationFrame 0x01#8 5#8 []).map Instr.stationLinkByte) State.reset
      = some { State.reset with rx := [⟨0x01#8, 5#8, []⟩] } := by decide +kernel

theorem test_frame_completes :
    (after (.frameComplete ((be2 (crc16 [0#8, 1#8, 5#8]).toNat).getD 1 0#8))
      { State.reset with
        receiver := .inFrame [0#8, 1#8, 5#8, (be2 (crc16 [0#8, 1#8, 5#8]).toNat).getD 0 0#8] 0#32 }).rx
      = [⟨0x01#8, 5#8, []⟩] := by decide +kernel

theorem test_gap_discards :
    (after .interByteGap { State.reset with receiver := .inFrame [0#8] 0#32 }).discards = 1 := by decide +kernel

theorem test_time_set :
    (after (.timeSet 1#8 [0#8, 0#8, 1#8, 0#8]) (asked 2#8 1#8 [0#8, 0#8, 1#8, 0#8] State.reset)).time = 256#32 := by
  decide +kernel

theorem test_restart_surveys :
    (after (.restart 1#8 []) (asked 3#8 1#8 [] (faceIn .closedLocked []))).stateOf .a = .survey := by decide +kernel

theorem test_load_begin :
    let t := after (.loadBegin 1#8 []) (asked 4#8 1#8 [] (faceIn .empty []))
    t.store.load = .loading ∧ t.stateOf .a = .outOfService := by decide +kernel

theorem test_bay_record :
    ((after (.loadRecordBay 1#8 [0#8, 22#8, 0#8, 1#8, 0xE0#8, 0#8, 0#8, 1#8, 0xE7#8, 0xD0#8, 3#8])
      (asked 5#8 1#8 [1#8, 0#8, 22#8, 0#8, 1#8, 0xE0#8, 0#8, 0#8, 1#8, 0xE7#8, 0xD0#8, 3#8] loadingState)).store.cfg.a.bays)
      = baysOfA ++ [⟨22, 122880, 124880, true, true, false⟩] := by decide +kernel

theorem test_cell_record :
    ((after (.loadRecordCell 1#8 [1#8, 0#8, 0#8, 0#8, 0x9C#8, 0x40#8])
      (asked 5#8 1#8 [2#8, 1#8, 0#8, 0#8, 0#8, 0x9C#8, 0x40#8] loadingState)).store.cfg.b.cells.head?)
      = some ⟨0, 40000⟩ := by decide +kernel

theorem test_stop_record_takes_300 :
    ((after (.loadRecordStop 1#8 [0#8, 7#8, 0#8, 1#8, 0xD4#8, 0xC0#8, 0#8, 0#8])
      (asked 5#8 1#8 [4#8, 0#8, 7#8, 0#8, 1#8, 0xD4#8, 0xC0#8, 0#8, 0#8] loadingState)).store.cfg.a.stops)
      = [⟨7, 120000, 300⟩] := by decide +kernel

theorem test_param_record_clamps :
    ((after (.loadRecordParam 1#8 [0#8, 6#8, 0#8, 0#8, 1#8, 0#8])
      (asked 5#8 1#8 [5#8, 0#8, 6#8, 0#8, 0#8, 1#8, 0#8] loadingState)).store.cfg.a.params.dwellBase) = 180 := by
  decide +kernel

theorem test_load_end_brings_in :
    let t := after (.loadEnd 1#8 [0#8]) (asked 6#8 1#8 [0#8] loadingState)
    t.store.valid = true ∧ t.stateOf .a = .survey ∧ t.stateOf .b = .survey := by decide +kernel

/-- Face B has no bays, so only the early end is accepted. -/
theorem test_load_end_early_leaves_out :
    let s := { loadingState with store := loadingState.store.modCfg .b fun _ => {} }
    let t := after (.loadEndEarly 1#8 [1#8]) (asked 6#8 1#8 [1#8] s)
    t.stateOf .a = .survey ∧ t.stateOf .b = .outOfService := by decide +kernel

theorem test_fetch_events :
    let s := { State.reset with events := List.replicate 9 ⟨.arrived, some .a, none, 0#32, [7]⟩, rx := [⟨0x1D#8, 1#8, [0#8]⟩] }
    (after (.fetchEvents 1#8 [0#8]) s).events.length = 1 := by decide +kernel

theorem test_power_on_resets : after .powerOn (faceIn .held [14]) =
    { State.reset with faces := ⟨{ State.reset.faces.a with enable := ⟨true, true, none⟩ }, State.reset.faces.b⟩ } := by
  decide +kernel

/-! ### Records, reads and replies by their layouts (section 11.2) -/

/-- The bytes of the latest reply from its status on. -/
def replyOf (s : State) : List Byte := ((s.stationOut.getLast?).getD []).drop 4

/-- Consist 9 with one door: length 20,000, antenna offset 0, door offset 1,000, width 1,300. -/
theorem test_first_part_begins :
    let rest : List Byte := [0#8, 0#8, 0x4E#8, 0x20#8, 0#8, 0#8, 1#8, 0#8, 0#8, 3#8, 0xE8#8, 5#8, 0x14#8]
    (after (.consistFirstPart 1#8 9#8 rest) (asked 5#8 1#8 ([3#8, 9#8, 1#8] ++ rest) loadingState)).store.consists
      = [consist7, ⟨9, 20000, 0, 1, [⟨1000, 1300⟩]⟩] := by decide +kernel

/-- Consist 7 holds doors 1 to 4, so that door 4 is out of sequence: LOAD_ERROR 0x17, SEQUENCE, on field 2. -/
theorem test_continuation_out_of_sequence :
    let p : List Byte := [7#8, 4#8, 0#8, 0#8, 3#8, 0xE8#8, 5#8, 0x14#8]
    (replyOf (after (.consistContinuation 1#8 p) (asked 5#8 1#8 (3#8 :: p) loadingState))).take 7
      = [0x17#8, 0#8, 0#8, 3#8, 3#8, 2#8, 0#8] := by decide +kernel

theorem test_unknown_record_kind :
    (replyOf (after (.loadRecordUnknownKind 1#8 [6#8]) (asked 5#8 1#8 [6#8] loadingState))).take 7
      = [0x17#8, 0#8, 0#8, 1#8, 6#8, 0#8, 0#8] := by decide +kernel

theorem test_load_abandon :
    let t := after (.loadAbandon 1#8 []) (asked 7#8 1#8 [] loadingState)
    t.store.load = .idle ∧ t.store.valid = false ∧ t.store.consists = [] := by decide +kernel

/-- UNKNOWN_KIND is the first refusal code. -/
theorem test_unknown_kind :
    (replyOf (after (.unknownKind 0x40#8 1#8 []) (asked 0x40#8 1#8 [] State.reset))).take 3
      = [0x10#8, 0#8, 0#8] := by decide +kernel

/-- BERTHED is the sixth face state, without a substate. -/
theorem test_status_face :
    (replyOf (after (.statusFace 1#8 [0#8]) (asked 8#8 1#8 [0#8] (faceIn .berthed [])))).take 5
      = [0#8, 0#8, 0#8, 6#8, 0xFF#8] := by decide +kernel

/-- Four entries from bay 20 on would be bays 20 and 21. -/
theorem test_status_bays :
    let fields := (replyOf (after (.statusBays 1#8 [0#8, 20#8]) (asked 9#8 1#8 [0#8, 20#8] (faceIn .berthed [])))).drop 3
    fields.take 2 = [2#8, 20#8] := by decide +kernel

/-- F is 119,929 and E is −71 in the worked record of section 3.11. -/
theorem test_read_alignment :
    let fields := (replyOf (after (.readAlignment 1#8 [0#8]) (asked 0x0A#8 1#8 [0#8] (faceIn .berthed [])))).drop 3
    (fields.drop 24).take 8 = [0#8, 1#8, 0xD4#8, 0x79#8, 0xFF#8, 0xFF#8, 0xFF#8, 0xB9#8] := by decide +kernel

/-- Passage beams are fitted at bays 10 to 21. -/
theorem test_read_counts :
    let fields := (replyOf (after (.readCounts 1#8 [0#8]) (asked 0x0B#8 1#8 [0#8] (faceIn .berthed [])))).drop 3
    (fields.drop 16).take 4 = [0#8, 0x3F#8, 0xFC#8, 0#8] := by decide +kernel

/-- ALIGN is the first flag, with no bay. -/
theorem test_read_faults :
    let s := modFault .a (fun u => { u with flags := { u.flags with align := some ⟨none, 5#32⟩ } }) (faceIn .held [])
    let fields := (replyOf (after (.readFaults 1#8 [0#8]) (asked 0x0C#8 1#8 [0#8] s))).drop 3
    fields.take 6 = [1#8, 0xFF#8, 0#8, 0#8, 0#8, 5#8] := by decide +kernel

/-- STATION is cause 5, and HOLDING the second phase. -/
theorem test_read_release :
    let s := modRelease .a (fun r => { r with phase := .holding, station := true }) (faceIn .released [])
    let fields := (replyOf (after (.readRelease 1#8 [0#8]) (asked 0x0D#8 1#8 [0#8] s))).drop 3
    fields.take 6 = [0x10#8, 0#8, 0#8, 0#8, 0#8, 1#8] := by decide +kernel

/-- The mark changes, so that the detail is 1. -/
theorem test_restore_bay :
    let s := modBay .a 14 (fun e => { e with isolated := true }) (faceIn .held [])
    let t := after (.restoreBay 1#8 [0#8, 14#8]) (asked 0x17#8 1#8 [0#8, 14#8] s)
    (t.bay .a 14).map (·.isolated) = some false ∧ (replyOf t).take 4 = [0#8, 0#8, 0#8, 1#8] := by decide +kernel

/-- ALL clears ALIGN, one event waits, and neither flag nor summary stands. -/
theorem test_fault_clear :
    let s := modFault .a (fun u => { u with flags := { u.flags with align := some ⟨none, 5#32⟩ } }) (faceIn .held [])
    let t := after (.faultClear 1#8 [0#8, 0x80#8]) (asked 0x19#8 1#8 [0#8, 0x80#8] s)
    t.stateOf .a = .held ∧ (replyOf t).take 5 = [0#8, 1#8, 0#8, 0#8, 0#8] := by decide +kernel

theorem test_fetch_repeats :
    let s := { State.reset with batch := [⟨.arrived, some .a, none, 9#32, [7, 901, 7]⟩] }
    let t := after (.fetchEventsRepeat 1#8 [1#8]) (asked 0x1D#8 1#8 [1#8] s)
    (replyOf t).take 18 = [0#8, 0#8, 0#8, 1#8, 1#8, 0#8, 0xFF#8, 0#8, 0#8, 0#8, 9#8, 3#8, 0#8, 7#8, 3#8, 0x85#8, 0#8, 7#8]
      ∧ t.batch.length = 1 := by decide +kernel

/-! ### Witnesses: states and operands that meet the hypotheses of the statements -/

theorem witness_StepRunsTheFrontCommand :
    ({ State.reset with pending := [.turn .a] } : State).pending = .turn .a :: [] := rfl

theorem witness_IdleMillisecondPasses : State.reset.pending = [] ∧ connecting.pending = [] := by decide

/-- R172: a first part of 24 door entries and a continuation of one fit; of 25 entries and of none they do not. -/
theorem test_record_lengths :
    let first := fun n : Nat => 3#8 :: 7#8 :: 1#8 :: List.replicate n 0#8
    let more := fun n : Nat => 3#8 :: 7#8 :: 2#8 :: List.replicate n 0#8
    ([151, 157, 12, 7, 13].map fun n => recordLengthFits (first n)) = [true, false, false, false, true]
      ∧ ([6, 144, 0, 150].map fun n => recordLengthFits (more n)) = [true, true, false, false]
      ∧ recordLengthFits [6#8] = true ∧ recordLengthFits [] = false := by decide +kernel

/-- Kinds 0 and 0x1E name no request; IDENTIFY takes no payload; a CELL record is 7 bytes long; face byte 2 names no
face. -/
theorem witness_MalformedRequestsChangeNothing :
    requestFrame (.unknownKind 0x1E#8 1#8 []) = some ⟨0x1E#8, 1#8, []⟩
      ∧ Front ⟨0x1E#8, 1#8, []⟩ (asked 0x1E#8 1#8 [] State.reset) ∧ namesRequest 0x1E#8 = false
      ∧ requestFrame (.unknownKind 0#8 1#8 []) = some ⟨0#8, 1#8, []⟩ ∧ namesRequest 0#8 = false
      ∧ requestFrame (.identify 1#8 [0#8]) = some ⟨0x01#8, 1#8, [0#8]⟩
      ∧ Front ⟨0x01#8, 1#8, [0#8]⟩ (asked 0x01#8 1#8 [0#8] State.reset) ∧ lengthFits ⟨0x01#8, 1#8, [0#8]⟩ = false
      ∧ requestFrame (.statusFace 1#8 [2#8]) = some ⟨0x08#8, 1#8, [2#8]⟩
      ∧ Front ⟨0x08#8, 1#8, [2#8]⟩ (asked 0x08#8 1#8 [2#8] State.reset)
      ∧ carriesFace 0x08#8 = true ∧ lengthFits ⟨0x08#8, 1#8, [2#8]⟩ = true
      ∧ frameFace ⟨0x08#8, 1#8, [2#8]⟩ = none
      ∧ requestFrame (.loadRecordCell 1#8 [0#8]) = some ⟨0x05#8, 1#8, [2#8, 0#8]⟩
      ∧ Front ⟨0x05#8, 1#8, [2#8, 0#8]⟩ (asked 0x05#8 1#8 [2#8, 0#8] State.reset)
      ∧ lengthFits ⟨0x05#8, 1#8, [2#8, 0#8]⟩ = false :=
  ⟨rfl, rfl, by decide, rfl, by decide, rfl, rfl, by decide, rfl, rfl, by decide, by decide, by decide, rfl, rfl,
    by decide⟩

/-- The first and the last kind that need configuration, with a load open and with none. -/
theorem witness_ConfigurationIsNeeded :
    requestFrame (.statusBays 1#8 [0#8, 31#8]) = some ⟨0x09#8, 1#8, [0#8, 31#8]⟩
      ∧ Front ⟨0x09#8, 1#8, [0#8, 31#8]⟩ (asked 0x09#8 1#8 [0#8, 31#8] loadingState)
      ∧ needsConfiguration 0x09#8 = true ∧ lengthFits ⟨0x09#8, 1#8, [0#8, 31#8]⟩ = true
      ∧ (frameFace ⟨0x09#8, 1#8, [0#8, 31#8]⟩).isSome = true ∧ loadingState.store.load = .loading
      ∧ requestFrame (.releaseReset 1#8 [1#8]) = some ⟨0x1C#8, 1#8, [1#8]⟩
      ∧ Front ⟨0x1C#8, 1#8, [1#8]⟩ (asked 0x1C#8 1#8 [1#8] State.reset)
      ∧ needsConfiguration 0x1C#8 = true ∧ lengthFits ⟨0x1C#8, 1#8, [1#8]⟩ = true
      ∧ (frameFace ⟨0x1C#8, 1#8, [1#8]⟩).isSome = true
      ∧ State.reset.store.load = .idle ∧ State.reset.store.valid = false
      ∧ requestFrame (.statusFace 1#8 [0#8]) = some ⟨0x08#8, 1#8, [0#8]⟩
      ∧ Front ⟨0x08#8, 1#8, [0#8]⟩ (asked 0x08#8 1#8 [0#8] State.reset) ∧ needsConfiguration 0x08#8 = false :=
  ⟨rfl, rfl, by decide, by decide, by decide, rfl, rfl, rfl, by decide, by decide, by decide, rfl, rfl, rfl, rfl,
    by decide⟩

theorem witness_EveryRequestIsAnsweredOnce :
    requestFrame (.identify 1#8 []) = some ⟨0x01#8, 1#8, []⟩
      ∧ Front ⟨0x01#8, 1#8, []⟩ (asked 0x01#8 1#8 [] (faceIn .opened [14]))
      ∧ requestFrame (.restart 1#8 []) = some ⟨0x03#8, 1#8, []⟩
      ∧ Front ⟨0x03#8, 1#8, []⟩ (asked 0x03#8 1#8 [] (faceIn .opened [14])) := ⟨rfl, rfl, rfl, rfl⟩

theorem witness_FrameBehindAnOlderFrameWaits :
    requestFrame (.identify 1#8 []) = some ⟨0x01#8, 1#8, []⟩
      ∧ Front ⟨0x04#8, 0#8, []⟩ (asked 0x04#8 0#8 [] State.reset)
      ∧ (⟨0x04#8, 0#8, []⟩ : Machine.Frame) ≠ ⟨0x01#8, 1#8, []⟩ := ⟨rfl, rfl, by decide⟩

/-- A length byte of 241 and of 240, a gap of 20 ms and of 21 ms, and the last byte but one of the shortest frame. -/
theorem witness_ReceiverGathersBytes :
    State.reset.receiver = .hunting ∧ (0x5A#8 : Byte) ≠ 0xA5#8
      ∧ (let s := { State.reset with receiver := .inFrame [] 0#32, time := 20#32 };
          s.receiver = .inFrame [] 0#32 ∧ (s.time - 0#32).toNat ≤ 20 ∧ 240 < (241#8 : Byte).toNat
            ∧ (240#8 : Byte).toNat ≤ 240)
      ∧ (let s := { State.reset with receiver := .inFrame [0#8, 1#8, 5#8] 0#32 };
          s.receiver = .inFrame (0#8 :: [1#8, 5#8]) 0#32 ∧ (s.time - 0#32).toNat ≤ 20
            ∧ ([1#8, 5#8] : List Byte).length + 2 < (0#8 : Byte).toNat + 5)
      ∧ (let s := { State.reset with receiver := .inFrame [0#8] 0#32, time := 21#32 };
          s.receiver = .inFrame [0#8] 0#32 ∧ 20 < (s.time - 0#32).toNat) := by decide

/-- The shortest frame, with its check and with another. -/
theorem witness_CompletedFrameIsJudged :
    (let s := { State.reset with receiver := .inFrame (0#8 :: 1#8 :: 5#8 :: [] ++ [0xC3#8]) 0#32 };
      s.receiver = .inFrame (0#8 :: 1#8 :: 5#8 :: [] ++ [0xC3#8]) 0#32 ∧ (s.time - 0#32).toNat ≤ 20)
      ∧ (0#8 : Byte).toNat ≤ 240 ∧ ([] : List Byte).length = (0#8 : Byte).toNat
      ∧ ∃ x y, [x, y] = be2 (crc16 (0#8 :: 1#8 :: 5#8 :: [])).toNat :=
  ⟨by decide, by decide, by decide, _, _, rfl⟩

theorem witness_BuiltFramesAreReadBack :
    (List.replicate 240 0#8 : List Byte).length ≤ 240 ∧ State.reset.receiver = .hunting
      ∧ State.reset.rx.length < 2 := by decide +kernel

theorem witness_IdentifyReportsThePart :
    Front ⟨0x01#8, 1#8, []⟩ (asked 0x01#8 1#8 [] loadingState) := rfl

/-- Twelve bays from bay 10 on: entries 1 to 4 are shown, at the offsets that their lengths give. -/
theorem witness_ReadsChangeNothing_entries :
    (let s := modBay .a 11 (fun e => { e with report := none }) (faceIn .held [14]);
      let shown := (s.face .a).bays.filter fun e => decide (10 ≤ e.num);
      Configured s ∧ (shown[3]?).map (·.num) = some 13 ∧ ((shown.take 3).map entrySize).sum = 46 + 41 + 46) :=
  ⟨⟨rfl, rfl⟩, by decide +kernel⟩

theorem witness_ReadsChangeNothing :
    faceOfByte 1#8 = some .b ∧ Front ⟨0x08#8, 1#8, [1#8]⟩ (asked 0x08#8 1#8 [1#8] loadingState)
      ∧ Configured (asked 0x09#8 1#8 [1#8, 31#8] (faceIn .held []))
      ∧ Front ⟨0x09#8, 1#8, [1#8, 31#8]⟩ (asked 0x09#8 1#8 [1#8, 31#8] (faceIn .held []))
      ∧ Front ⟨0x0A#8, 1#8, [1#8]⟩ (asked 0x0A#8 1#8 [1#8] (faceIn .held []))
      ∧ Front ⟨0x0B#8, 1#8, [1#8]⟩ (asked 0x0B#8 1#8 [1#8] (faceIn .held []))
      ∧ Front ⟨0x0C#8, 1#8, [1#8]⟩ (asked 0x0C#8 1#8 [1#8] (faceIn .held []))
      ∧ Front ⟨0x0D#8, 1#8, [1#8]⟩ (asked 0x0D#8 1#8 [1#8] (faceIn .held [])) :=
  ⟨rfl, rfl, asked_configured _ _ _ (faceIn_configured _ _), rfl, rfl, rfl, rfl, rfl⟩

theorem witness_TimeSetKeepsDurations :
    Front ⟨0x02#8, 1#8, be4 (0xFFFFFFFF#32).toNat⟩ (asked 0x02#8 1#8 (be4 (0xFFFFFFFF#32).toNat) connecting) := rfl

theorem witness_RestartKeepsTheConfiguration :
    (let s := asked 0x03#8 1#8 [] (faceIn .held [14]);
      Front ⟨0x03#8, 1#8, []⟩ s ∧ s.stateOf .a ≠ .outOfService ∧ s.stateOf .b = .outOfService
        ∧ s.store.load = .idle ∧ s.loopClosed .a = true ∧ s.fireActive = false)
      ∧ (let s := asked 0x03#8 1#8 [] { faceIn .held [14] with fire := ⟨false, false, none⟩ };
          Front ⟨0x03#8, 1#8, []⟩ s ∧ s.stateOf .a ≠ .outOfService ∧ s.store.load = .idle ∧ s.fireActive = true)
      ∧ Front ⟨0x03#8, 1#8, []⟩ (asked 0x03#8 1#8 [] loadingState) ∧ loadingState.store.load = .loading :=
  ⟨⟨rfl, by decide +kernel⟩,
    ⟨rfl, by decide +kernel⟩, rfl, rfl⟩

/-- Two faces in service: a RESTART that finds FIRE active leaves the records of both releases, and those alone. -/
theorem test_restart_finds_causes :
    let s := { asked 0x03#8 1#8 [] (modSeq .b (fun r => { r with state := .held }) (faceIn .held [14])) with
      fire := ⟨false, false, none⟩, events := [⟨.arrived, some .a, none, 0#32, []⟩], time := 9#32 }
    (after (.restart 1#8 []) s).events
      = [⟨.releaseEntered, some .a, none, 9#32, [4, 2]⟩, ⟨.faultSet, some .a, none, 9#32, [7, 0]⟩,
          ⟨.releaseEntered, some .b, none, 9#32, [4, 2]⟩, ⟨.faultSet, some .b, none, 9#32, [7, 0]⟩] := by
  decide +kernel

theorem witness_FetchTakesTheOldestEight :
    Front ⟨0x1D#8, 1#8, [0#8]⟩ (asked 0x1D#8 1#8 [0#8] State.reset)
      ∧ Front ⟨0x1D#8, 1#8, [255#8]⟩ (asked 0x1D#8 1#8 [255#8] State.reset) ∧ (255#8 : Byte) ≠ 0#8
      ∧ (asked 0x1D#8 1#8 [255#8] State.reset).batch.length ≤ 8
      ∧ Front ⟨0x03#8, 1#8, []⟩ (asked 0x03#8 1#8 [] State.reset)
      ∧ (⟨.arrived, some .a, none, 0#32, [1, 2, 3]⟩ : EventRecord).details.length ≤ 3 :=
  ⟨rfl, rfl, by decide, by decide, rfl, by decide⟩

theorem rest_permitComposed {s : State} (hc : Composed s) (h : ∀ f, s.stateOf f = .outOfService)
    (k : ∀ f, (s.face f).seq.closingKind = none) (m : ∀ f, (s.face f).seq.substate = none) : PermitComposed s :=
  ⟨hc, fun f _ => ⟨k f, m f⟩, fun _ => h⟩

/-- Both faces hold an order, with room for two records alone; then face B alone. -/
theorem witness_LoadBeginAndAbandon_lapses :
    (let s :=
        { asked 0x04#8 1#8 []
            (modSeq .b (fun r => { r with slot := some 9#8 }) (modSeq .a (fun r => { r with slot := some 3#8 })
              (faceIn .empty []))) with events := List.replicate 62 ⟨.arrived, none, none, 0#32, []⟩ };
      Front ⟨0x04#8, 1#8, []⟩ s ∧ (s.face .a).seq.slot = some 3#8 ∧ (s.face .b).seq.slot = some 9#8
        ∧ s.events.length + 2 ≤ Config.queueSize
        ∧ s.stateOf .a = .empty ∧ s.stateOf .b = .outOfService)
      ∧ (let s := asked 0x04#8 1#8 [] (modSeq .b (fun r => { r with slot := some 9#8 }) (faceIn .empty []));
          (s.face .a).seq.slot = none ∧ (s.face .b).seq.slot = some 9#8) :=
  ⟨⟨rfl, by decide +kernel⟩, by decide +kernel⟩

theorem witness_LoadBeginAndAbandon :
    (let s := asked 0x04#8 1#8 [] (faceIn .empty []);
      Front ⟨0x04#8, 1#8, []⟩ s ∧ ∀ f, s.stateOf f = .empty ∨ s.stateOf f = .outOfService ∨ s.stateOf f = .held)
      ∧ (let s := asked 0x04#8 1#8 [] (faceIn .arriving []);
          Front ⟨0x04#8, 1#8, []⟩ s
            ∧ ¬∀ f, s.stateOf f = .empty ∨ s.stateOf f = .outOfService ∨ s.stateOf f = .held)
      ∧ (let s := asked 0x07#8 1#8 [] loadingState;
          Front ⟨0x07#8, 1#8, []⟩ s ∧ s.store.load = .loading ∧ PermitComposed s)
      ∧ (let s := asked 0x07#8 1#8 [] State.reset;
          Front ⟨0x07#8, 1#8, []⟩ s ∧ s.store.load = .idle) :=
  ⟨⟨rfl, by intro f; cases f <;> decide +kernel⟩, ⟨rfl, fun h => absurd (h .a) (by decide +kernel)⟩,
    ⟨rfl, by decide +kernel, rest_permitComposed (asked_composed _ _ _ _) (by intro f; cases f <;> decide +kernel)
      (by intro f; cases f <;> decide +kernel) (by intro f; cases f <;> decide +kernel)⟩, rfl, by decide +kernel⟩

/-- Record kinds 0 and 6, and each record kind with a face. -/
theorem witness_RecordsNeedAnOpenLoad :
    requestFrame (.loadRecordUnknownKind 1#8 [0#8]) = some ⟨0x05#8, 1#8, [0#8]⟩
      ∧ Front ⟨0x05#8, 1#8, [0#8]⟩ (asked 0x05#8 1#8 [0#8] State.reset) ∧ recordLengthFits [0#8] = true
      ∧ State.reset.store.load = .idle ∧ (asked 0x05#8 1#8 [6#8] loadingState).store.load = .loading
      ∧ Front ⟨0x05#8, 1#8, [6#8]⟩ (asked 0x05#8 1#8 [6#8] loadingState) ∧ recordLengthFits [6#8] = true
      ∧ 5 < (6#8 : Byte).toNat
      ∧ (let p : List Byte := 2#8 :: 2#8 :: [0#8, 0#8, 0#8, 0#8, 0#8];
          requestFrame (.loadRecordCell 1#8 p.tail) = some ⟨0x05#8, 1#8, p⟩ ∧ recordLengthFits p = true
            ∧ faceOfByte 2#8 = none)
      ∧ (let p : List Byte := 5#8 :: 0xFE#8 :: [1#8, 0#8, 0#8, 0#8, 0#8];
          requestFrame (.loadRecordParam 1#8 p.tail) = some ⟨0x05#8, 1#8, p⟩ ∧ recordLengthFits p = true
            ∧ faceOfByte 0xFE#8 = none ∧ (0xFE#8 : Byte) ≠ 0xFF#8) :=
  ⟨rfl, rfl, by decide, rfl, by decide +kernel, rfl, by decide, by decide, by decide, by decide⟩

/-- A bay of number 31 and a cell of index 11 at the greatest position. -/
theorem witness_BayCellAndStopRecordsAreStored :
    faceOfByte 0#8 = some .a ∧ (asked 0x05#8 1#8 [] loadingState).store.load = .loading
      ∧ Front ⟨0x05#8, 1#8, 1#8 :: 0#8 :: 31#8 :: (be4 (248800#32).toNat ++ be4 (250000#32).toNat ++ [7#8])⟩
          (asked 0x05#8 1#8 (1#8 :: 0#8 :: 31#8 :: (be4 (248800#32).toNat ++ be4 (250000#32).toNat ++ [7#8])) loadingState)
      ∧ Front ⟨0x05#8, 1#8, 2#8 :: 0#8 :: 11#8 :: be4 (250000#32).toNat⟩
          (asked 0x05#8 1#8 (2#8 :: 0#8 :: 11#8 :: be4 (250000#32).toNat) loadingState)
      ∧ Front ⟨0x05#8, 1#8, 4#8 :: 0#8 :: 254#8 :: (be4 (250000#32).toNat ++ be2 (500#16).toNat)⟩
          (asked 0x05#8 1#8 (4#8 :: 0#8 :: 254#8 :: (be4 (250000#32).toNat ++ be2 (500#16).toNat)) loadingState) :=
  ⟨rfl, by decide +kernel, rfl, rfl, rfl⟩

/-- A first part of one door at the ends of every range, and doors out of range and beyond the count. -/
theorem witness_FirstPartBeginsAConsist :
    (asked 0x05#8 1#8 [] loadingState).store.load = .loading
      ∧ (let ds : List Door := [⟨240000, 2000⟩];
          1 ≤ ds.length ∧ ds.length ≤ 24 ∧ (∀ d ∈ ds, doorFits d) ∧ (∀ d ∈ ds, doorInRange d)
            ∧ ds.length ≤ (48#8 : Byte).toNat)
      ∧ (let rest := be4 (240000#32).toNat ++ be2 (20000#16).toNat ++ [48#8] ++ [(⟨240000, 2000⟩ : Door)].flatMap doorEntry;
          Front ⟨0x05#8, 1#8, 3#8 :: 254#8 :: 1#8 :: rest⟩ (asked 0x05#8 1#8 (3#8 :: 254#8 :: 1#8 :: rest) loadingState))
      ∧ doorInRange ⟨0, 900⟩ ∧ ¬doorInRange ⟨0, 899⟩ ∧ ¬doorInRange ⟨240001, 900⟩ ∧ doorFits ⟨240001, 65535⟩
      ∧ (1#8 : Byte).toNat < ([⟨0, 900⟩, ⟨2000, 900⟩] : List Door).length := by
  refine ⟨by decide +kernel, ?_, rfl, ?_, ?_, ?_, ?_, ?_⟩ <;> simp [doorFits, doorInRange]

/-- A continuation of consist 7 from its fifth door, and one out of sequence. -/
theorem witness_ContinuationAppendsDoors :
    (let s : State :=
        asked 0x05#8 1#8 (3#8 :: 7#8 :: 5#8 :: [(⟨24000, 900⟩ : Door)].flatMap doorEntry)
          { loadingState with store := { loadingState.store with consists := [{ consist7 with doorCount := 5 }] } };
      s.store.load = .loading
        ∧ Front ⟨0x05#8, 1#8, 3#8 :: 7#8 :: 5#8 :: [(⟨24000, 900⟩ : Door)].flatMap doorEntry⟩ s
        ∧ s.store.consists.find? (fun c => c.code = (7#8 : Byte).toNat) = some { consist7 with doorCount := 5 })
      ∧ (5#8 : Byte).toNat = consist7.doors.length + 1 ∧ (6#8 : Byte).toNat ≠ consist7.doors.length + 1
      ∧ (5#8 : Byte) ≠ 1#8 ∧ consist7.doors.length + 1 ≤ 5 ∧ 4 < consist7.doors.length + 1
      ∧ (∀ d ∈ [(⟨24000, 900⟩ : Door)], doorFits d) ∧ ∀ d ∈ [(⟨24000, 900⟩ : Door)], doorInRange d := by
  refine ⟨⟨by decide +kernel, rfl, by decide +kernel⟩, by decide, by decide, by decide, by decide, by decide, ?_, ?_⟩
    <;> simp [doorFits, doorInRange]

/-- The first and the last numeric parameter, the mask, an unknown parameter and the platform's. -/
theorem witness_ParamRecordWritesOneParameter :
    (asked 0x05#8 1#8 [] loadingState).store.load = .loading
      ∧ Front ⟨0x05#8, 1#8, 5#8 :: 0#8 :: 1#8 :: be4 (901#32).toNat⟩
          (asked 0x05#8 1#8 (5#8 :: 0#8 :: 1#8 :: be4 (901#32).toNat) loadingState)
      ∧ faceOfByte 0#8 = some .a ∧ (∃ row ∈ parameterTable, row.1 = (1#8 : Byte).toNat)
      ∧ (∃ row ∈ parameterTable, row.1 = (19#8 : Byte).toNat) ∧ 20 < (21#8 : Byte).toNat
      ∧ Front ⟨0x05#8, 1#8, 5#8 :: 0xFF#8 :: 21#8 :: be4 (2#32).toNat⟩
          (asked 0x05#8 1#8 (5#8 :: 0xFF#8 :: 21#8 :: be4 (2#32).toNat) loadingState) := by
  refine ⟨by decide +kernel, rfl, rfl, ?_, ?_, by decide, rfl⟩ <;> simp [parameterTable]

theorem witness_CollectionsAreKeyed : Ascending Cell.index cellsOfA := by
  unfold Ascending; decide

/-- A face that passes with the flag alone, one check that fails, and a load that passes whole. -/
theorem witness_LoadEndJudgesTheLoad :
    (Instr.loadEnd 1#8 [0#8] = .loadEnd 1#8 [0#8])
      ∧ Front ⟨0x06#8, 1#8, [0#8]⟩ (asked 0x06#8 1#8 [0#8] loadingState)
      ∧ (asked 0x06#8 1#8 [0#8] State.reset).store.load = .idle
      ∧ (let s := asked 0x06#8 1#8 [0#8] loadingState;
          s.store.load = .loading ∧ loadOutcome s.store (decide ((0#8 : Byte) ≠ 0#8)) = .inr ⟨true, true⟩
            ∧ ∀ f, s.stateOf f = .outOfService)
      ∧ (let s := asked 0x06#8 1#8 [1#8] { State.reset with store := { load := .loading } };
          s.store.load = .loading ∧ loadOutcome s.store (decide ((1#8 : Byte) ≠ 0#8)) = .inl ⟨5, 1, some .a, none, none⟩) :=
  ⟨rfl, rfl, by decide +kernel, ⟨by decide +kernel, by decide +kernel, by intro f; cases f <;> decide +kernel⟩, by decide +kernel⟩

/-- A load whose bays differ in their fittings, with no release cause, and with FIRE active and no record. -/
def mixedLoad : State :=
  { loadingState with
    store :=
      { loadingState.store with
        cfg :=
          ⟨{ configOfA with bays := baysOfA.map fun g => { g with gap := g.num % 2 == 0, beams := g.num % 3 == 0 } },
            configOfA⟩ } }

theorem witness_LoadEndJudgesTheLoad_fittings :
    (let s := asked 0x06#8 1#8 [0#8] mixedLoad;
      s.store.load = .loading ∧ loadOutcome s.store (decide ((0#8 : Byte) ≠ 0#8)) = .inr ⟨true, true⟩
        ∧ ((s.cfg .a).bays.map (·.num)).Pairwise (· < ·) ∧ s.causesFound .a = []
        ∧ (∃ g ∈ (s.cfg .a).bays, g.gap = true ∧ g.beams = false)
        ∧ (∃ g ∈ (s.cfg .a).bays, g.gap = false ∧ g.beams = true))
      ∧ (let s := asked 0x06#8 1#8 [0#8] { mixedLoad with fire := ⟨false, false, none⟩ };
          s.causesFound .a ≠ [] ∧ (s.face .a).meas.status ≠ .current) := by
  decide +kernel

/-- R16: a qualifier and a decoder exactly where the bay has the fitting, and polling from the lowest bay. -/
theorem test_load_end_fits_the_bays :
    let t := after (.loadEnd 1#8 [0#8]) (asked 0x06#8 1#8 [0#8] mixedLoad)
    ((t.face .a).bays.all fun e => (e.gap == some {}) == (e.num % 2 == 0) && e.beams.isSome == (e.num % 3 == 0)) = true
      ∧ (t.face .a).bus.cursor = some 10 := by
  decide +kernel

theorem ready (kind tag : Byte) (p : List Byte) (st : FaceState) (os : List Nat) :
    Configured (asked kind tag p (faceIn st os)) := asked_configured kind tag p (faceIn_configured st os)

/-- A code above 254 with a train number, and the face that is out of service. -/
theorem witness_ExpectConsistStagesOne :
    faceOfByte 0#8 = some .a ∧ faceOfByte 1#8 = some .b
      ∧ (let s := asked 0x0E#8 1#8 (0#8 :: (be2 (255#16).toNat ++ be2 (901#16).toNat)) (faceIn .empty []);
          Configured s ∧ Front ⟨0x0E#8, 1#8, 0#8 :: (be2 (255#16).toNat ++ be2 (901#16).toNat)⟩ s
            ∧ s.stateOf .a ≠ .outOfService ∧ s.stateOf .b = .outOfService ∧ Composed s) :=
  ⟨rfl, rfl, ready _ _ _ _ _, rfl, by decide +kernel, by decide +kernel, asked_composed _ _ _ _⟩

/-- An order that waits; an id used before; a state that takes none; a slot that is full. -/
theorem witness_OpenOrderIsExamined :
    (let s := asked 0x0F#8 1#8 [0#8, 255#8] (faceIn .empty []);
      Configured s ∧ Front ⟨0x0F#8, 1#8, [0#8, 255#8]⟩ s ∧ s.stateOf .a = .empty ∧ (s.face .a).seq.slot = none
        ∧ (255#8 : Byte).toNat ∉ (s.face .a).seq.acceptedIds ∧ ¬MayOpen .a s ∧ Composed s) :=
  ⟨ready _ _ _ _ _, rfl, by decide +kernel, by decide +kernel, by decide +kernel,
    fun h => absurd ((mayOpen_iff _ _).mpr h) (by decide +kernel), asked_composed _ _ _ _⟩

theorem witness_AcceptedOrderOpensTheFace :
    (let s := asked 0x0F#8 1#8 [0#8, 42#8] (faceIn .berthed []);
      Configured s ∧ Front ⟨0x0F#8, 1#8, [0#8, 42#8]⟩ s ∧ (42#8 : Byte) ≠ 0#8
        ∧ (42#8 : Byte).toNat ∉ (s.face .a).seq.acceptedIds ∧ (s.face .a).seq.slot = none ∧ MayOpen .a s
        ∧ (s.face .a).berth.vacant = false
        ∧ ∃ n ∈ (s.face .a).seq.grant, (s.bay .a n).any BayEntry.leafOpen = false) :=
  ⟨ready _ _ _ _ _, rfl, by decide, by decide +kernel, by decide +kernel, (mayOpen_iff _ _).mp (by decide +kernel), by decide +kernel⟩

theorem witness_WithdrawOrderFindsTheId :
    (let s := asked 0x10#8 1#8 [0#8, 42#8] (faceIn .arriving []);
      Configured s ∧ Composed s ∧ Front ⟨0x10#8, 1#8, [0#8, 42#8]⟩ s)
      ∧ (let s := asked 0x10#8 1#8 [0#8, 0#8] (faceIn .arriving []);
          Configured s ∧ Composed s ∧ Front ⟨0x10#8, 1#8, [0#8, 0#8]⟩ s)
      ∧ Front ⟨0x10#8, 1#8, [0#8, 42#8]⟩ (asked 0x10#8 1#8 [0#8, 42#8] loadingState)
      ∧ (asked 0x10#8 1#8 [0#8, 42#8] loadingState).store.load = .loading
      ∧ Front ⟨0x10#8, 1#8, [0#8, 42#8]⟩ (asked 0x10#8 1#8 [0#8, 42#8] State.reset)
      ∧ (asked 0x10#8 1#8 [0#8, 42#8] State.reset).store.load = .idle
      ∧ (asked 0x10#8 1#8 [0#8, 42#8] State.reset).store.valid = false :=
  ⟨⟨ready _ _ _ _ _, asked_composed _ _ _ _, rfl⟩, ⟨ready _ _ _ _ _, asked_composed _ _ _ _, rfl⟩, rfl,
    by decide +kernel, rfl, by decide +kernel⟩

theorem witness_CloseOrderStartsAClosing :
    (let s := asked 0x11#8 1#8 [0#8] (faceIn .opened [14]);
      Configured s ∧ Front ⟨0x11#8, 1#8, [0#8]⟩ s ∧ s.stateOf .a = .opened ∧ ∃ e ∈ (s.face .a).bays, e.locked = false)
      ∧ (let s := asked 0x11#8 1#8 [0#8] (faceIn .opened []);
          Front ⟨0x11#8, 1#8, [0#8]⟩ s ∧ s.stateOf .a = .opened
            ∧ (∀ e ∈ (s.face .a).bays, e.locked = true ∧ e.gapIsActive = false)
            ∧ (s.face .a).berth.vacant = false ∧ s.events.length + 2 ≤ 64)
      ∧ (let s := asked 0x11#8 1#8 [0#8] (faceIn .held [14]);
          Front ⟨0x11#8, 1#8, [0#8]⟩ s ∧ s.stateOf .a = .held ∧ ∃ e ∈ (s.face .a).bays, e.locked = false)
      ∧ (let s := asked 0x11#8 1#8 [0#8] (faceIn .berthed []);
          Front ⟨0x11#8, 1#8, [0#8]⟩ s ∧ s.stateOf .a ≠ .opened ∧ s.stateOf .a ≠ .held) :=
  ⟨⟨ready _ _ _ _ _, rfl, by decide +kernel⟩,
    ⟨rfl, by decide +kernel⟩,
    ⟨rfl, by decide +kernel⟩, rfl, by decide +kernel⟩

theorem witness_RemeasureMeasuresAgain :
    (let s := asked 0x12#8 1#8 [0#8] (faceIn .berthed []);
      Configured s ∧ Front ⟨0x12#8, 1#8, [0#8]⟩ s ∧ s.stateOf .a = .berthed ∧ (s.face .a).berth.vacant = false
        ∧ (s.face .a).berth.consist = some (7, .train) ∧ s.serving ≠ some .b)
      ∧ (asked 0x12#8 1#8 [0#8] { faceIn .berthed [] with serving := some .b }).serving = some (otherFace .a)
      ∧ (let s := asked 0x12#8 1#8 [0#8] (modBerth .a (fun b => { b with consist := none }) (faceIn .berthed []));
          Front ⟨0x12#8, 1#8, [0#8]⟩ s ∧ s.stateOf .a = .berthed ∧ (s.face .a).berth.vacant = false
            ∧ (s.face .a).berth.consist = none ∧ s.serving ≠ some .a)
      ∧ (asked 0x12#8 1#8 [0#8] (faceIn .empty [])).stateOf .a ≠ .berthed :=
  ⟨⟨ready _ _ _ _ _, rfl, by decide +kernel⟩,
    by decide +kernel, ⟨rfl, by decide +kernel⟩,
    by decide +kernel⟩

/-- Every value above its range, at an open face, and a face out of service. -/
theorem witness_DwellSetRewritesTheDwell :
    (let p : List Byte := 0#8 :: (be2 (181#16).toNat ++ [2#8] ++ be2 (21#16).toNat);
      let s := asked 0x13#8 1#8 p (faceIn .opened [14]);
      Configured s ∧ Front ⟨0x13#8, 1#8, p⟩ s ∧ s.stateOf .a ≠ .outOfService ∧ Composed s
        ∧ s.stateOf .b = .outOfService) :=
  ⟨ready _ _ _ _ _, rfl, by decide +kernel, asked_composed _ _ _ _, by decide +kernel⟩

/-- A record made at an open face, a minimum raised while it waits, and the two refusals. -/
theorem witness_ConnectHoldMakesARecord :
    (let p : List Byte := 0#8 :: (be2 (121#16).toNat ++ be2 (9#16).toNat);
      let s := asked 0x14#8 1#8 p (faceIn .opened [14]);
      let h : HoldRecord := ⟨120, 10, 0, some 0#32, none⟩;
      Configured s ∧ Front ⟨0x14#8, 1#8, p⟩ s ∧ (s.face (otherFace .a)).seq.hold = none ∧ Composed s
        ∧ s.stateOf .a = .opened ∧ h.minimum = min 120 (121#16).toNat ∧ h.cap = max 10 (min 300 (9#16).toNat)
        ∧ h.accumulated = ((s.face .a).seq.hold.map (·.accumulated)).getD 0 ∧ (s.face .a).seq.hold = none
        ∧ h.countingStart = some s.time ∧ (s.face .a).seq.substate ≠ some .connectionWait
        ∧ h.capDeadline = (s.face .a).seq.hold.bind (·.capDeadline))
      ∧ (let s := asked 0x14#8 1#8 [] connecting;
          (s.face .a).seq.substate = some .connectionWait ∧ (s.face .a).seq.hold.map (·.accumulated) = some 13000
            ∧ 13000 < 120 * 1000 ∧ s.stateOf .a = .opened)
      ∧ (let p : List Byte := 0#8 :: (be2 (13#16).toNat ++ be2 (60#16).toNat);
          let s := asked 0x14#8 1#8 p connecting;
          Configured s ∧ Front ⟨0x14#8, 1#8, p⟩ s ∧ (s.face (otherFace .a)).seq.hold = none ∧ s.stateOf .a = .opened
            ∧ (s.face .a).seq.substate = some .connectionWait
            ∧ (s.face .a).seq.hold = some ⟨20, 60, 13000, none, some 297300#32⟩
            ∧ min 120 (13#16).toNat * 1000 ≤ 13000 ∧ (s.params .a).autoClose = 1
            ∧ ∃ e ∈ (s.face .a).bays, e.locked = false)
      ∧ (let s := asked 0x14#8 1#8 []
            (modStore (fun st => st.modCfg .a fun c => { c with params := { c.params with autoClose := 0 } }) connecting);
          Composed s ∧ (s.face .a).seq.substate = some .connectionWait ∧ (s.params .a).autoClose = 0)
      ∧ (asked 0x14#8 1#8 [] connecting).stateOf .b = .opened
      ∧ ((asked 0x14#8 1#8 [] connecting).face (otherFace .b)).seq.hold ≠ none
      ∧ (asked 0x14#8 1#8 [] (faceIn .closing [14])).stateOf .a = .closing :=
  ⟨⟨ready _ _ _ _ _, rfl, by decide +kernel, asked_composed _ _ _ _, by decide +kernel, by decide, by decide, by decide +kernel⟩,
    by decide +kernel,
    ⟨asked_configured _ _ _ ⟨rfl, rfl⟩, rfl, by decide +kernel⟩,
    ⟨asked_composed _ _ _ _, by decide +kernel⟩, by decide +kernel⟩

/-- Face A waits for its hold, with auto close on. -/
theorem witness_ConnectCancelClearsTheRecord :
    (let s := asked 0x15#8 1#8 [0#8] (faceIn .berthed []);
      Configured s ∧ Front ⟨0x15#8, 1#8, [0#8]⟩ s ∧ (s.face .a).seq.hold = none)
      ∧ (let s := asked 0x15#8 1#8 [0#8] (modSeq .a (fun r => { r with hold := some ⟨20, 60, 0, none, none⟩ }) (faceIn .berthed []));
          Front ⟨0x15#8, 1#8, [0#8]⟩ s ∧ (s.face .a).seq.hold ≠ none ∧ Composed s
            ∧ (s.face .a).seq.substate ≠ some .connectionWait)
      ∧ (let s := asked 0x15#8 1#8 [0#8] connecting;
          Configured s ∧ Front ⟨0x15#8, 1#8, [0#8]⟩ s ∧ (s.face .a).seq.hold ≠ none
            ∧ (s.face .a).seq.substate = some .connectionWait ∧ (s.params .a).autoClose = 1
            ∧ (∃ e ∈ (s.face .a).bays, e.locked = false))
      ∧ (let s := asked 0x15#8 1#8 [0#8]
            (modStore (fun st => st.modCfg .a fun c => { c with params := { c.params with autoClose := 0 } }) connecting);
          Front ⟨0x15#8, 1#8, [0#8]⟩ s ∧ (s.face .a).seq.hold ≠ none ∧ Composed s
            ∧ (s.face .a).seq.substate = some .connectionWait ∧ (s.params .a).autoClose = 0) :=
  ⟨⟨ready _ _ _ _ _, rfl, by decide +kernel⟩, ⟨rfl, by decide +kernel, asked_composed _ _ _ _, by decide +kernel⟩,
    ⟨asked_configured _ _ _ ⟨rfl, rfl⟩, rfl, by decide +kernel⟩,
    rfl, by decide +kernel, asked_composed _ _ _ _, by decide +kernel⟩

/-- A berthed face with the order of section 4.11 waiting. -/
def orderWaits (s : State) : State := modSeq .a (fun r => { r with slot := some 42#8 }) s

/-- Bay 14 isolated, and an order waiting for it. -/
theorem witness_IsolationMarksTheBay_opens :
    let s := asked 0x17#8 1#8 [0#8, 14#8] (orderWaits (modBay .a 14 (fun e => { e with isolated := true }) (faceIn .berthed [])))
    Configured s ∧ Front ⟨0x17#8, 1#8, [0#8, 14#8]⟩ s ∧ (s.bay .a 14).map (·.isolated) = some true
      ∧ WouldOpen .a 42#8 (modBay .a (14#8 : Byte).toNat (fun e => { e with isolated := false }) s) := by
  unfold WouldOpen MayOpen
  exact ⟨asked_configured _ _ _ ⟨rfl, rfl⟩, rfl, by decide +kernel⟩

theorem witness_IsolationMarksTheBay :
    (let s := asked 0x16#8 1#8 [0#8, 10#8] (faceIn .held []);
      Configured s ∧ requestFrame (.isolateBay 1#8 [0#8, 10#8]) = some ⟨0x16#8, 1#8, [0#8, 10#8]⟩
        ∧ Front ⟨0x16#8, 1#8, [0#8, 10#8]⟩ s ∧ (s.bay .a (10#8 : Byte).toNat).isSome = true ∧ s.stateOf .a = .held
        ∧ Composed s ∧ (s.face .a).seq.slot = none ∧ s.bay .a (9#8 : Byte).toNat = none)
      ∧ requestFrame (.restoreBay 1#8 [0#8, 21#8]) = some ⟨0x17#8, 1#8, [0#8, 21#8]⟩
      ∧ (asked 0x17#8 1#8 [0#8, 21#8] (faceIn .opened [])).stateOf .a = .opened :=
  ⟨⟨ready _ _ _ _ _, rfl, rfl, by decide +kernel, by decide +kernel, asked_composed _ _ _ _, by decide +kernel⟩, rfl, by decide +kernel⟩

/-- A face with LINK and LOCK set under a mask that is taken off. -/
def masked : State :=
  modFault .a
    (fun _ => { flags := { lock := some ⟨some 14, 5#32⟩, link := some ⟨none, 6#32⟩ }, mask := 0x24#7 })
    (faceIn .berthed [])

theorem witness_FaultMaskIsReplaced :
    (let s := asked 0x18#8 1#8 [0#8, 0x7F#8] masked;
      Configured s ∧ Front ⟨0x18#8, 1#8, [0#8, 0x7F#8]⟩ s ∧ s.stateOf .a ≠ .outOfService ∧ Composed s
        ∧ ({ (s.face .a).fault with mask := ((0x7F#8 : Byte).setWidth 6).setWidth 7 } : FaultUnit).summary = false
        ∧ (s.face .a).seq.slot = none ∧ s.stateOf .b = .outOfService)
      ∧ (let s := asked 0x18#8 1#8 [0#8, 0#8] masked;
          Front ⟨0x18#8, 1#8, [0#8, 0#8]⟩ s ∧ (s.face .a).fault.summary = false
            ∧ ({ (s.face .a).fault with mask := ((0#8 : Byte).setWidth 6).setWidth 7 } : FaultUnit).summary = true) :=
  ⟨⟨asked_configured _ _ _ ⟨rfl, rfl⟩, rfl, by decide +kernel, asked_composed _ _ _ _, by decide +kernel⟩, rfl, by decide +kernel⟩

/-- LINK comes to be masked while the link is LOST and an order waits. -/
theorem witness_FaultMaskIsReplaced_opens :
    let s := asked 0x18#8 1#8 [0#8, 0x20#8] (orderWaits (modBerth .a (fun b => { b with present := false }) (faceIn .berthed [])))
    let u : FaultUnit := { (s.face .a).fault with mask := ((0x20#8 : Byte).setWidth 6).setWidth 7 }
    Configured s ∧ Front ⟨0x18#8, 1#8, [0#8, 0x20#8]⟩ s ∧ u.summary = false
      ∧ ¬MayOpen .a s ∧ WouldOpen .a 42#8 (modFault .a (fun _ => u) s) := by
  unfold WouldOpen MayOpen
  exact ⟨asked_configured _ _ _ ⟨rfl, rfl⟩, rfl, by decide +kernel⟩

theorem witness_FaultClearClearsTheNamedFlags :
    (let s := asked 0x19#8 1#8 [0#8, 0x80#8] masked;
      Configured s ∧ Front ⟨0x19#8, 1#8, [0#8, 0x80#8]⟩ s ∧ s.stateOf .a ≠ .outOfService ∧ Composed s
        ∧ s.stateOf .b = .outOfService) :=
  ⟨asked_configured _ _ _ ⟨rfl, rfl⟩, rfl, by decide +kernel, asked_composed _ _ _ _, by decide +kernel⟩

theorem witness_FaceResumeEntersSurvey :
    (let s := asked 0x1A#8 1#8 [0#8] (faceIn .held []);
      Configured s ∧ Front ⟨0x1A#8, 1#8, [0#8]⟩ s ∧ s.stateOf .a = .held ∧ (s.face .a).fault.summary = false)
      ∧ (let s := asked 0x1A#8 1#8 [0#8]
            (modFault .a (fun u => { u with flags := { gap := some ⟨some 14, 5#32⟩ } }) (faceIn .held []));
          s.stateOf .a = .held ∧ (s.face .a).fault.summary = true)
      ∧ (asked 0x1A#8 1#8 [0#8] (faceIn .empty [])).stateOf .a ≠ .held :=
  ⟨⟨ready _ _ _ _ _, rfl, by decide +kernel⟩, by decide +kernel⟩

theorem witness_EmergencyOpenReleasesTheFace :
    (let s := asked 0x1B#8 1#8 [0#8] (faceIn .closedLocked []);
      Configured s ∧ Front ⟨0x1B#8, 1#8, [0#8]⟩ s ∧ s.stateOf .a ≠ .outOfService ∧ s.stateOf .a ≠ .released
        ∧ (s.face .a).release.station = false ∧ (s.face .a).meas.status = .current
        ∧ (s.face .a).meas.front ≠ none ∧ (∀ n ∈ (s.face .a).meas.evacuation, s.isolatedBay .a n = false))
      ∧ (let s := asked 0x1B#8 1#8 [0#8] (faceIn .released [14]);
          s.stateOf .a = .released ∧ (s.face .a).release.station = false)
      ∧ (let s := asked 0x1B#8 1#8 [0#8] (modRelease .a (fun r => { r with station := true }) (faceIn .released [14]));
          s.stateOf .a ≠ .outOfService ∧ (s.face .a).release.station = true)
      ∧ (asked 0x1B#8 1#8 [1#8] (faceIn .empty [])).stateOf .b = .outOfService
      ∧ (let s := asked 0x1B#8 1#8 [0#8] (modMeas .a (fun _ => {}) (faceIn .empty []));
          (s.face .a).meas.status ≠ .current) :=
  ⟨⟨ready _ _ _ _ _, rfl, by decide +kernel⟩, by decide +kernel⟩

theorem witness_ReleaseResetEndsTheRelease :
    (let s := asked 0x1C#8 1#8 [0#8] (faceIn .released [14]);
      Configured s ∧ Front ⟨0x1C#8, 1#8, [0#8]⟩ s ∧ s.stateOf .a = .released ∧ (s.face .a).release.loop = false
        ∧ (s.face .a).release.pulled = [] ∧ (s.face .a).release.train = false ∧ (s.face .a).release.fire = false
        ∧ ∃ e ∈ (s.face .a).bays, e.locked = false)
      ∧ (∀ e ∈ ((asked 0x1C#8 1#8 [0#8] (faceIn .released [])).face .a).bays, e.locked = true)
      ∧ ((asked 0x1C#8 1#8 [0#8] (modRelease .a (fun r => { r with pulled := [31] }) (faceIn .released []))).face
          .a).release.pulled ≠ []
      ∧ (asked 0x1C#8 1#8 [0#8] (faceIn .held [])).stateOf .a ≠ .released :=
  ⟨⟨ready _ _ _ _ _, rfl, by decide +kernel⟩, by decide +kernel⟩

/-- Every motion, five bytes too few, and a report of four beam events of the greatest age. -/
theorem witness_BuiltAnswersAreReadBack :
    (1#8 : Byte).toNat % 4 = 1 ∧ (2#8 : Byte).toNat % 4 = 2 ∧ ([] : List Byte).length ≠ 7
      ∧ ((3#8 : Byte).toNat % 4 = 3 ∧ (4#8 : Byte).toNat % 4 = 0)
      ∧ (let r : Report := { openReport with count := 15, events := List.replicate 4 ⟨.b, true, 1023⟩ };
          31 < 256 ∧ r.count < 16 ∧ r.events.length ≤ 4 ∧ ∀ v ∈ r.events, v.age < 1024) := by decide

/-- A train that moves beside a face in the states that keep their state. -/
theorem witness_BeaconsMoveTheFace_stale :
    (let bs := withCheck16 [0xB1#8, 7#8, 3#8, 0x85#8, 0x05#8];
      beaconOf bs = some ⟨7#8, 901#16, true, true, false, false⟩)
      ∧ ∀ st ∈ [FaceState.closedLocked, .held, .released, .survey, .arriving],
        let s := calm (faceIn st [14]);
        s.stateOf .a = st ∧ (s.face .a).meas.status = .current
          ∧ (s.face .a).berth.latest.any (fun x => !x.moving) = true := by
  decide +kernel

/-- A train that moves, stands or repeats its beacon, in each face state that acts on it; doors that change, a train
that becomes ready with an order waiting, one that calls for release, and a link regained. -/
theorem witness_BeaconsMoveTheFace :
    (let bs := withCheck16 [0xB1#8, 7#8, 3#8, 0x85#8, 0x05#8];
      let b : Beacon := ⟨7#8, 901#16, true, true, false, false⟩;
      beaconOf bs = some b ∧ b.moving = true ∧ b.emergency = false
        ∧ (let s := calm (modBerth .a (fun x => { x with present := false, latest := none }) (faceIn .empty []));
            s.stateOf .a = .empty ∧ (s.face .a).berth.present = false ∧ (s.face .a).berth.lossReported = false
              ∧ s.usable .a standing.code.toNat = true)
        ∧ (∀ st ∈ [FaceState.opening, .opened, .closing],
            let s := calm (faceIn st [14]);
            s.stateOf .a = st ∧ (s.face .a).berth.present = true
              ∧ (s.face .a).berth.latest.any (fun x => !x.moving) = true
              ∧ (∃ e ∈ (s.face .a).bays, e.locked = false) ∧ (s.face .a).meas.status = .current)
        ∧ (let s := calm { modMeas .a (fun m => { m with status := .sampling }) (faceIn .measuring []) with serving := some .a };
            s.stateOf .a = .measuring ∧ (s.face .a).berth.vacant = false
              ∧ (s.face .a).berth.latest.any (fun x => !x.moving) = true ∧ (s.face .a).meas.status = .sampling
              ∧ ¬(s.serving = some .a ∧ s.waitingFor = some .a)))
      ∧ beaconOf (withCheck16 [0xB1#8, 7#8, 3#8, 0x85#8, 0x0E#8]) = some standing
      ∧ (let s := calm (faceIn .berthed []);
          s.stateOf .a ≠ .empty ∧ (s.face .a).berth.present = true ∧ (s.face .a).berth.latest = some standing
            ∧ (s.face .a).release.train = standing.emergency)
      ∧ Composed (calm (faceIn .berthed []))
      ∧ (let s := calm (modBerth .a (fun x => { x with latest := some { standing with moving := true } }) (faceIn .arriving []));
          s.stateOf .a = .arriving ∧ standing.moving = false ∧ standing.emergency = false
            ∧ (s.face .a).berth.present = true ∧ (s.face .a).berth.latest.any (·.moving) = true
            ∧ (s.face .a).berth.vacant = false ∧ (s.face .a).berth.consist = some (7, .train))
      ∧ (let s := calm (modBerth .a (fun x => { x with present := false, lossReported := true }) (faceIn .opened [14]));
          (s.face .a).berth.present = false ∧ (s.face .a).berth.lossReported = true)
      ∧ (let x : Beacon := { standing with ready := false, doorsClosed := false };
          let s := calm (modSeq .a (fun r => { r with slot := some 42#8 })
            (modBerth .a (fun y => { y with latest := some x }) (faceIn .berthed [])));
          s.stateOf .a = .berthed ∧ (s.face .a).seq.slot = some 42#8 ∧ (s.face .a).berth.latest = some x
            ∧ x.doorsClosed ≠ standing.doorsClosed ∧ x.moving = false ∧ x.ready = false ∧ standing.ready = true
            ∧ (s.face .a).seq.grant ≠ [] ∧ (s.face .a).enable.level = true
            ∧ (∀ n ∈ (s.face .a).seq.grant, (s.bay .a n).map (·.isolated) = some false)
            ∧ ∃ n ∈ (s.face .a).seq.grant, (s.bay .a n).any BayEntry.leafOpen = false)
      ∧ (let b : Beacon := { standing with emergency := true };
          let s := calm (faceIn .berthed []);
          beaconOf (withCheck16 [0xB1#8, 7#8, 3#8, 0x85#8, 0x1E#8]) = some b ∧ b.emergency = true
            ∧ s.stateOf .a ≠ .outOfService ∧ s.stateOf .a ≠ .released ∧ standing.moving = b.moving
            ∧ standing.ready = b.ready ∧ (s.face .a).release.train = false) :=
  ⟨⟨by decide +kernel, rfl, rfl, by decide +kernel⟩, by decide +kernel,
    by decide +kernel, calm_composed _, by decide +kernel⟩

theorem witness_LostLinkIsReported :
    ((calm State.reset).face .a).berth.present = false
      ∧ (let s := calm (faceIn .berthed []);
          (s.face .a).berth.present = true ∧ (s.face .a).berth.lastGood = some 0#32 ∧ (s.face .a).seq.slot = none
            ∧ s.stateOf .a = .berthed)
      ∧ (let s := calm (faceIn .empty []);
          (s.face .a).berth.present = true ∧ (s.face .a).berth.lastGood = some 0#32 ∧ s.stateOf .a = .empty) := by
  decide +kernel

/-- An order that waits for a READY TO OPEN which does not come, LINK masked and not. -/
theorem witness_LostLinkIsReported_opens :
    let s := fun m : FlagSet => calm (orderWaits (modFault .a (fun u => { u with mask := m })
      (modBerth .a (fun b => { b with latest := some { standing with ready := false } }) (faceIn .berthed []))))
    let v := modBerth .a (fun b => { b with present := false }) (advanceTo (0#32 + 500#32) (s 0x20#7))
    ((s 0x20#7).face .a).berth.present = true ∧ ((s 0x20#7).face .a).berth.lastGood = some 0#32
      ∧ WouldOpen .a 42#8 v ∧ FlagSet.has ((s 0x20#7).face .a).fault.mask .link = true
      ∧ ((s 0#7).face .a).seq.slot = some 42#8 ∧ FlagSet.has ((s 0#7).face .a).fault.mask .link = false
      ∧ ((s 0#7).face .a).fault.summary = false := by
  unfold WouldOpen MayOpen
  decide +kernel

/-- Face A one valid sample from a full run, with an order waiting and face B waiting for the unit. -/
def almostMeasured (mark samples : Nat) : State :=
  let s := modMeas .a
    (fun m =>
      { m with
        status := .sampling
        samples := samples
        run := [119928, 119928, 119928]
        mark := some mark
        bayClasses := none
        doorClasses := none
        grant := []
        doorList := []
        evacuation := []
        evacDoors := [] })
    (modSeq .a (fun r => { r with slot := some 42#8, grant := [] }) (faceIn .measuring []))
  { calm (modMeas .b (fun m => { m with status := .waiting }) s) with serving := some .a, waitingFor := some .b }

/-- The strongest cell inside the row, and a reading with a ghost. -/
def validReading : List Strength := [60#10, 60#10, 60#10, 150#10, 800#10, 320#10]

def ghostReading : List Strength := [600#10, 60#10, 60#10, 60#10, 800#10, 320#10]

/-- A completion ON_MARK whose order would be accepted, one that falls SHORT by one millimetre more than the
tolerance, and a sixteenth sample without a full run. -/
theorem witness_StrengthReadingIsTaken_completes :
    (let s := almostMeasured 119928 3;
      let j := judge (s.cfg .a).cells (s.params .a).strengthFloor ((s.face .a).meas.antenna.getD 0) validReading;
      let w := withFront (s.cfg .a) (s.doorsOf (s.face .a).meas) (s.isolatedBay .a) 119928 (s.face .a).meas;
      let p := modSeq .a (fun r => { r with state := .berthed, grant := w.grant })
        (modMeas .a (fun _ => { w with status := .current }) s);
      s.stateOf .a = .measuring ∧ (s.face .a).meas.status = .sampling ∧ (s.face .a).berth.present = true
        ∧ (s.face .a).berth.vacant = false ∧ s.waitingFor ≠ some .a ∧ s.serving = some .a
        ∧ runAfter (s.face .a).meas.run j = [119928, 119928, 119928, 119928] ∧ w.verdict = some .onMark
        ∧ (p.face .a).seq.slot = some 42#8 ∧ p.mayOpen .a = true
        ∧ ∃ n ∈ (p.face .a).seq.grant, (p.bay .a n).any BayEntry.leafOpen = false)
      ∧ (let s := almostMeasured 120229 3;
          (s.face .a).meas.mark = some 120229 ∧ (s.face .a).meas.tolerance = some 300 ∧ 119928 + 300 < 120229
            ∧ FlagSet.has (s.face .a).fault.mask .align = false ∧ (s.face .a).fault.summary = false)
      ∧ (let s := almostMeasured 119928 15;
          judge (s.cfg .a).cells (s.params .a).strengthFloor ((s.face .a).meas.antenna.getD 0) ghostReading = .ghost
            ∧ (runAfter (s.face .a).meas.run .ghost).length ≠ 4 ∧ 16 ≤ (s.face .a).meas.samples + 1) := by
  decide +kernel

/-- R58, R65, R39: the results go to the Face Record and the Bay Table, the order opens the face, and the unit turns
to face B. -/
theorem test_completion_hands_over :
    let t := after (.strengthReading .a validReading) (almostMeasured 119928 3)
    (t.face .a).seq.grant = [14, 20] ∧ t.stateOf .a = .opening ∧ t.serving = some .b ∧ t.waitingFor = none
      ∧ (t.face .b).meas.status = .sampling
      ∧ ((t.face .a).bays.filter (·.granted)).map (·.num) = [14, 20] := by
  decide +kernel

/-- A face with no link and a vacancy 2,000 ms old, one that samples its sixteenth reading, and one with a train
just at the floor. -/
theorem witness_StrengthReadingIsTaken :
    (calm State.reset).stateOf .a = .outOfService
      ∧ (let s := calm (faceIn .berthed []);
          s.stateOf .a ≠ .outOfService ∧ (s.face .a).meas.status ≠ .sampling
            ∧ (s.params .a).strengthFloor ≤ (240#10 : Strength).toNat
            ∧ (239#10 : Strength).toNat < (s.params .a).strengthFloor ∧ (s.face .a).berth.present = true)
      ∧ Composed (calm (faceIn .berthed []))
      ∧ (let s := calm
            { modBerth .a (fun b => { b with present := false, weakSince := some 0#32 }) (faceIn .berthed []) with
              time := 2000#32 };
          (s.face .a).berth.vacant = false ∧ (s.face .a).berth.present = false ∧ s.stateOf .a = .berthed
            ∧ 2000 ≤ elapsed s.time ((s.face .a).berth.weakSince.getD s.time)
            ∧ ∀ e ∈ (s.face .a).bays, e.gapIsActive = false)
      ∧ (let s := calm
            { modBerth .a (fun b => { b with present := false, weakSince := some 0#32 }) (faceIn .opened [14]) with
              time := 2000#32 };
          s.stateOf .a = .opened ∧ (s.face .a).meas.status = .current ∧ ∃ e ∈ (s.face .a).bays, e.locked = false)
      ∧ (let s := calm { modMeas .a (fun m => { m with status := .sampling, samples := 15 }) (faceIn .measuring []) with
              serving := some .a };
          (s.face .a).meas.status = .sampling ∧ (s.face .a).berth.vacant = false
            ∧ (s.face .a).berth.present = true ∧ s.waitingFor ≠ some .a ∧ 16 ≤ (s.face .a).meas.samples + 1
            ∧ (s.face .a).meas.mark = some 120000 ∧ (s.face .a).meas.tolerance = some 300) :=
  ⟨by decide +kernel, by decide +kernel, calm_composed _, by decide +kernel⟩

/-- The strongest cell inside the row and at its end, a ghost, and a reading below the floor. -/
theorem witness_SamplesAreJudgedByTheRules :
    2 ≤ cellsOfA.length ∧ 1 ≤ 240 ∧ 4 < cellsOfA.length
      ∧ (∀ i x, cellsOfA[i]? = some x → centreAt cellsOfA i = x.centre)
      ∧ (let ss : List Strength := [60#10, 60#10, 60#10, 150#10, 800#10, 320#10];
          (∀ i, strengthAt ss i = (ss.getD i 0#10).toNat)
            ∧ (∀ i, i < cellsOfA.length → strengthAt ss i ≤ strengthAt ss 4)
            ∧ (∀ i, i < 4 → strengthAt ss i < strengthAt ss 4) ∧ 240 ≤ strengthAt ss 4
            ∧ (∀ i, i < cellsOfA.length → i ≠ 4 → i + 1 ≠ 4 → i ≠ 4 + 1 → 2 * strengthAt ss i ≤ strengthAt ss 4)
            ∧ strengthAt ss (4 - 1) < strengthAt ss 5
            ∧ judge cellsOfA 240 1500 ss = .valid 119928 ∧ judge cellsOfA 240 140000 ss = .range)
      ∧ (let ss : List Strength := [401#10, 60#10, 60#10, 150#10, 800#10, 320#10];
          judge cellsOfA 240 1500 ss = .ghost ∧ judge cellsOfA 900 1500 ss = .weak) :=
  ⟨by decide, by decide, by decide, fun i x h => by simp [centreAt, h],
    ⟨fun _ => rfl, by decide, by decide, by decide, by decide, by decide, by decide +kernel⟩, by decide +kernel⟩

/-- A run at the spread limit and a granted bay. -/
theorem witness_ClassesAndSetsFollowTheRules :
    ([100, 160, 120, 130] : List Nat).length = 4
      ∧ (∀ y ∈ [100, 160, 120, 130], ∀ z ∈ [100, 160, 120, 130], y ≤ z + 60)
      ∧ recordOfA.mark.isSome = true ∧ recordOfA.tolerance.isSome = true
      ∧ 14 ∈ recordOfA.grant ∧ 11 ∈ recordOfA.evacuation := by decide +kernel

/-- A master with nothing to send, one with a search under way and one with entries from the turn before. -/
theorem witness_TurnSendsOneTransaction :
    ((calm State.reset).face .a).bus.cursor = none
      ∧ (let s := calm (faceIn .survey []);
          (s.face .a).bus.cursor = some 10 ∧ 10 < 32 ∧ (s.face .a).bus.outstanding = none
            ∧ (s.face .a).bus.gap = [] ∧ (s.face .a).bus.search = .idle
            ∧ (s.face .a).bus.queryNext = false ∧ (s.face .a).bus.polls < 8)
      ∧ (let s := calm (modBus .a (fun b => { b with search := .hit 31, polls := 8 }) (faceIn .empty []));
          (s.face .a).bus.cursor = some 10 ∧ (s.face .a).bus.search = .hit 31 ∧ 31 < 32 ∧ 8 ≤ (s.face .a).bus.polls)
      ∧ (let s := calm (endTurn .a (modBus .a (fun b => { b with dispatch := [.unicast 14 .closeLeaf, .groupClose] }) (faceIn .closing [])));
          (s.face .a).bus.cursor = some 10 ∧ (s.face .a).bus.outstanding = none
            ∧ (s.face .a).bus.gap = .unicast 14 .closeLeaf :: [.groupClose]) := by decide +kernel

/-- A train stationary or moving beside a face in SURVEY whose last bay awaits its third poll, with a mask. -/
def surveying (mask : FlagSet) (b : Option Beacon) (openBays : List Nat) : State :=
  calm (modFault .a (fun u => { u with mask := mask })
    (modBerth .a (fun x => { x with present := b.isSome, latest := b })
      (modBays .a (fun e => { e with surveyPolls := if e.num = 14 then 2 else 3 })
        (modBus .a (fun x => { x with outstanding := some ⟨.poll 14 true, false, 3#32⟩ }) (faceIn .survey openBays)))))

/-- A SILENT bay that answers at the window's end, a late answer, a handle, a lock lost, the last granted bay open,
an obstacle, the last lock, and the six rows of the SURVEY decision. -/
theorem witness_AnsweredReportIsKept :
    ((calm (faceIn .empty [])).face .a).bus.outstanding = none
      ∧ (let s := calm (polling 14
            { modBay .a 14 (fun e => { e with silent := true, miss := 3 }) (faceIn .empty []) with time := 3#32 });
          (s.face .a).bus.outstanding = some ⟨.poll 14 false, false, 3#32⟩
            ∧ (TransKind.poll 14 false).reportFrom = some 14 ∧ (reportOf 14 (answerOf 14 lockedReport)).isSome = true
            ∧ reportOf 14 [] = none ∧ (s.bay .a 14).map (·.silent) = some true
            ∧ (s.time - 3#32).toNat = 0)
      ∧ (let s := { calm (polling 14 (faceIn .empty [])) with time := 4#32 };
          ¬((s.time - 3#32).toNat = 0 ∨ 2147483648 ≤ (s.time - 3#32).toNat))
      ∧ (let s := calm (polling 14 (modBays .a (fun e => { e with gap := none }) (faceIn .berthed [])));
          2147483648 ≤ (s.time - 3#32).toNat ∧ s.stateOf .a = .berthed ∧ 14 ∉ (s.face .a).release.pulled
            ∧ reportOf 14 (answerOf 14 { openReport with pulled := true }) = some { openReport with pulled := true }
            ∧ reportOf 14 (answerOf 14 openReport) = some openReport ∧ openReport.lock = false
            ∧ (s.bay .a 14).map (·.gap) = some none ∧ (s.face .a).seq.closingKind = none)
      ∧ (let s := calm (polling 14 (modBays .a (fun e => { e with gap := none }) (faceIn .opening [20])));
          s.stateOf .a = .opening ∧ (s.face .a).berth.vacant = false ∧ (s.face .a).seq.dwell = some ⟨25, 0, 5⟩
            ∧ openReport.leaf = .opened
            ∧ ∀ m ∈ (s.face .a).seq.grant, m ≠ 14 → (s.bay .a m).any BayEntry.leafOpen = true)
      ∧ (let s := calm (polling 14 (modBays .a (fun e => { e with gap := none })
            (closingWith ⟨14, .sent, 2, none, false, false, some 276000#32⟩ ⟨20, .locked, 0, none, false, false, none⟩)));
          s.entry .a 14 = some ⟨14, .sent, 2, none, false, false, some 276000#32⟩ ∧ s.stateOf .a = .closing
            ∧ 2 < (s.params .a).closeRetries
            ∧ reportOf 14 (answerOf 14 { openReport with obstacle := true }) = some { openReport with obstacle := true }
            ∧ (s.face .a).seq.closingKind = some .normal ∧ (s.face .a).berth.vacant = false
            ∧ (∀ b ∈ (s.face .a).bays, b.gapIsActive = false) ∧ lockedReport.lock = true
            ∧ (∀ y ∈ (s.face .a).seq.closing, (y.bay = 14 → y.phase ≠ .left) ∧ (y.bay ≠ 14 → y.phase = .locked))
            ∧ (∀ y ∈ (s.face .a).seq.closing, y.retries ≤ 2) ∧ ∃ y ∈ (s.face .a).seq.closing, y.retries = 2)
      ∧ (∀ s ∈ [surveying 0x00#7 none [20], surveying 0x04#7 (some standing) [], surveying 0x00#7 (some standing) [],
            surveying 0x00#7 (some { standing with moving := true }) [], surveying 0x00#7 none []],
          s.stateOf .a = .survey ∧ (s.face .a).bus.outstanding = some ⟨.poll 14 true, false, 3#32⟩
            ∧ ∀ b ∈ (s.face .a).bays, if b.num = 14 then 2 ≤ b.surveyPolls else 3 ≤ b.surveyPolls)
      ∧ (∃ b ∈ ((surveying 0x00#7 none [20]).face .a).bays, b.num ≠ 14 ∧ b.locked = false)
      ∧ (let s := modBay .a 20 (fun e => { e with silent := true }) (surveying 0x04#7 none []);
          (∃ b ∈ (s.face .a).bays, b.num ≠ 14 ∧ b.silent = true) ∧ FlagSet.has (s.face .a).fault.mask .lock = true
            ∧ FlagSet.has (s.face .a).fault.mask .silent = false)
      ∧ (let s := surveying 0x00#7 (some standing) [];
          (∀ b ∈ (s.face .a).bays, b.num ≠ 14 → b.locked = true) ∧ (s.face .a).fault.summary = false
            ∧ (s.face .a).berth.present = true ∧ standing.moving = false ∧ s.usable .a standing.code.toNat = true
            ∧ ∀ b ∈ (s.face .a).bays, b.gapIsActive = false)
      ∧ ((modFault .a (fun u => { u with flags := { u.flags with release := some ⟨none, 0#32⟩ } })
            (surveying 0x00#7 none [])).face .a).fault.summary = true :=
  by and_intros <;> decide +kernel

/-- What an answered REPORT does to the master: the last bay polled with an order waiting under its busy hold, a
follow-up within a turn, a poll for SURVEY, and hits at a bay and at an address without one. -/
theorem witness_AnsweredReportIsKept_master :
    (let s := calm (polling 21 (modBay .a 21 (fun e => { e with busyHold := true, waiting := some .openLeaf }) (faceIn .empty [])));
      (s.face .a).bus.outstanding = some ⟨.poll 21 false, false, 3#32⟩ ∧ (s.face .a).bus.turning = false
        ∧ reportOf 21 (answerOf 21 lockedReport) = some lockedReport ∧ lockedReport.lock = true
        ∧ (s.bay .a 21).map (fun e => (e.busyHold, e.waiting)) = some (true, some .openLeaf)
        ∧ polledAfter 21 (s.face .a).bays = some 10 ∧ polledAfter 10 (s.face .a).bays = some 11
        ∧ (s.face .a).seq.closingKind = none ∧ lockedReport.pulled = false ∧ 21 ∉ (s.face .a).release.pulled
        ∧ (∀ e, s.bay .a 21 = some e → ∀ q, e.gap = some q → lockedReport.gapActive = q.active)
        ∧ s.stateOf .a ≠ .opening ∧ s.stateOf .a ≠ .survey)
      ∧ (let s := calm (modBus .a (fun b => { b with outstanding := some ⟨.followUp 14, false, 3#32⟩, turning := true })
            (faceIn .held []));
          (s.face .a).bus.outstanding = some ⟨.followUp 14, false, 3#32⟩ ∧ (s.face .a).bus.turning = true
            ∧ (s.face .a).bus.gap = [] ∧ (s.face .a).bus.cursor = some 10 ∧ 10 < 32
            ∧ (s.face .a).bus.search = .idle ∧ (s.face .a).bus.queryNext = false ∧ (s.face .a).bus.polls < 8)
      ∧ (surveying 0x00#7 none []).stateOf .a = .survey
      ∧ ((surveying 0x00#7 none []).face .a).bus.outstanding = some ⟨.poll 14 true, false, 3#32⟩
      ∧ (∀ n ∈ [9, 14],
          let s := calm (modBus .a (fun b => { b with search := .hit n, outstanding := some ⟨.hit n, false, 3#32⟩ })
            (faceIn .empty []));
          (s.face .a).bus.outstanding = some ⟨.hit n, false, 3#32⟩ ∧ (s.face .a).bus.turning = false
            ∧ 2147483648 ≤ (s.time - 3#32).toNat ∧ reportOf n (answerOf n lockedReport) = some lockedReport
            ∧ (s.bay .a n).isNone = decide (n = 9)) := by decide +kernel

/-- Section 5.9: the last bay's poll moves the cursor to the lowest bay, and the bay's waiting order goes out in the
gap before the next turn; the hit of an address without a bay ends its search. -/
theorem test_poll_moves_the_cursor :
    let s := modBay .a 21 (fun e => { e with busyHold := true, waiting := some .openLeaf }) (faceIn .empty [])
    let t := after (.reportAnswer .a (answerOf 21 lockedReport)) (calm (polling 21 s))
    let h := modBus .a (fun b => { b with search := .hit 9, outstanding := some ⟨.hit 9, false, 3#32⟩ }) s
    let u := after (.reportAnswer .a (answerOf 9 { lockedReport with attention := true })) (calm h)
    (t.face .a).bus.cursor = some 10 ∧ (t.face .a).bus.polls = 1 ∧ (t.face .a).bus.gap = [.unicast 21 .openLeaf]
      ∧ (u.face .a).bus.search = .idle ∧ (u.face .a).bus.queryNext = true := by decide +kernel

/-- An order sent by a turn, with the poll alone to come after it and with one entry more; and a late answer. -/
theorem witness_OrderAnswersActOnTheSlots :
    ((calm (faceIn .empty [])).face .a).bus.outstanding = none
      ∧ (let s := ordering 14 .closeLeaf (faceIn .released [14]);
          (s.face .a).bus.outstanding = some ⟨.order 14 .closeLeaf, false, 3#32⟩ ∧ 14 < 32
            ∧ (s.bay .a 14).isSome = true ∧ (s.face .a).bus.turning = true
            ∧ (s.face .a).seq.closingKind = none ∧ 2147483648 ≤ (s.time - 3#32).toNat
            ∧ (s.face .a).bus.gap = [] ∧ (s.face .a).bus.cursor = some 10 ∧ 10 < 32
            ∧ (s.face .a).bus.search = .idle ∧ (s.face .a).bus.queryNext = false ∧ (s.face .a).bus.polls < 8)
      ∧ (let s := after (.turn .a) (calm (endTurn .a (issue .a 20 .closeLeaf (issue .a 14 .closeLeaf (faceIn .released [14, 20])))));
          (s.face .a).bus.outstanding = some ⟨.order 14 .closeLeaf, false, 3#32⟩ ∧ (s.face .a).bus.turning = true
            ∧ (s.face .a).bus.gap = .unicast 20 .closeLeaf :: [])
      ∧ (let s := { ordering 14 .closeLeaf (faceIn .released [14]) with time := 4#32 };
          ¬((s.time - 3#32).toNat = 0 ∨ 2147483648 ≤ (s.time - 3#32).toNat)) := by decide +kernel

/-- The ACK of the order ends it, and the turn goes on with its poll; so does a BUSY, with the follow-up placed. -/
theorem test_order_answered_within_its_turn :
    let s := ordering 14 .openLeaf (faceIn .opening [])
    let t := after (.ack .a (withCheck8 [0xD1#8, 14#8])) s
    let u := after (.busy .a (withCheck8 [0xD2#8, 14#8])) s
    (t.face .a).bus.outstanding = some ⟨.poll 10 false, false, 3#32⟩ ∧ (t.face .a).bus.turning = false
      ∧ (u.face .a).bus.outstanding = some ⟨.poll 10 false, false, 3#32⟩
      ∧ (u.face .a).bus.dispatch = [.followUp 14] := by decide +kernel

theorem witness_MissesAreCounted :
    ((calm (faceIn .empty [])).face .a).bus.outstanding = none
      ∧ ((calm (modBus .a (fun b => { b with outstanding := some ⟨.query 5 0, false, 3#32⟩ }) (faceIn .empty []))).face
          .a).bus.outstanding = some ⟨.query 5 0, false, 3#32⟩
      ∧ (let s := ordering 14 .closeLeaf
            (modRelease .a (fun r => { r with phase := .holding }) (faceIn .released [14]));
          (s.face .a).bus.outstanding = some ⟨.order 14 .closeLeaf, false, 3#32⟩
            ∧ (s.face .a).release.phase = .holding ∧ (s.bay .a 14).isSome = true)
      ∧ (let s := after (.turn .a) (calm (endTurn .a (groupWarn .a true (faceIn .closing [14]))));
          (s.face .a).bus.outstanding = some ⟨.groupWarn true, false, 3#32⟩ ∧ (s.face .a).bus.turning = true
            ∧ (s.face .a).bus.gap = [] ∧ (s.face .a).bus.cursor = some 10 ∧ (s.face .a).bus.search = .idle
            ∧ (s.face .a).bus.queryNext = false ∧ (s.face .a).bus.polls < 8)
      ∧ (let s := calm (modBay .a 10 (fun e => { e with miss := 2 })
            (modBus .a (fun b => { b with outstanding := some ⟨.followUp 10, true, 3#32⟩ }) (faceIn .empty [])));
          (s.face .a).bus.outstanding = some ⟨.followUp 10, true, 3#32⟩
            ∧ (s.bay .a 10).map (fun e => (e.silent, e.miss)) = some (false, 2)) := by decide +kernel

/-- Second misses: an order with another waiting, the last poll of a SURVEY and one before it, and hits at a bay and
at an address without one. -/
theorem witness_MissesAreCounted_twice :
    (let s := calm (modBay .a 14 (fun e => { e with inFlight := some .openLeaf, waiting := some .closeLeaf })
        (modBus .a (fun b => { b with outstanding := some ⟨.order 14 .openLeaf, true, 3#32⟩, turning := true })
          (faceIn .closing [14])));
      (s.face .a).bus.outstanding = some ⟨.order 14 .openLeaf, true, 3#32⟩ ∧ (s.face .a).bus.turning = true
        ∧ (s.bay .a 14).map (fun e => (e.silent, e.miss, e.busyHold)) = some (false, 0, false)
        ∧ (s.face .a).bus.gap = [] ∧ (s.face .a).bus.cursor = some 10 ∧ (s.face .a).bus.search = .idle)
      ∧ (∀ k ∈ [2, 1],
          let s := modBus .a (fun b => { b with outstanding := some ⟨.poll 14 true, true, 3#32⟩ })
            (modBay .a 14 (fun e => { e with surveyPolls := k }) (surveying 0x00#7 none []));
          (s.face .a).bus.outstanding = some ⟨.poll 14 true, true, 3#32⟩ ∧ s.stateOf .a = .survey
            ∧ (s.bay .a 14).map (·.surveyPolls) = some k ∧ (s.face .a).bus.turning = false
            ∧ (k = 2 → ∀ b ∈ (s.face .a).bays, if b.num = 14 then 2 ≤ b.surveyPolls else 3 ≤ b.surveyPolls))
      ∧ (∃ b ∈ ((surveying 0x00#7 none [20]).face .a).bays, b.locked = false)
      ∧ FlagSet.has ((surveying 0x00#7 none [20]).face .a).fault.mask .lock = false
      ∧ ∀ n ∈ [9, 14],
          let s := calm (modBus .a (fun b => { b with search := .hit n, outstanding := some ⟨.hit n, true, 3#32⟩ })
            (faceIn .empty []));
          (s.face .a).bus.outstanding = some ⟨.hit n, true, 3#32⟩ ∧ (s.face .a).bus.turning = false
            ∧ (s.bay .a n).isNone = decide (n = 9) := by decide +kernel

/-- Section 5.10: a poll missed twice is complete and counts toward SURVEY, here as the last one, with one bay open;
an order missed twice is dropped and the waiting one goes up. -/
theorem test_second_miss_ends_the_transaction :
    let s := modBus .a (fun b => { b with outstanding := some ⟨.poll 14 true, true, 3#32⟩ }) (surveying 0x00#7 none [20])
    let t := after (.answerWindowClosed .a) s
    let u := after (.answerWindowClosed .a) (calm (modBay .a 14 (fun e => { e with waiting := some .closeLeaf })
      (modBus .a (fun b => { b with outstanding := some ⟨.order 14 .openLeaf, true, 3#32⟩ }) (faceIn .closing [14]))))
    t.stateOf .a = .held ∧ (t.events.getLast?.map fun x => (x.kind, x.details)) = some (.surveyDone, [1])
      ∧ (t.face .a).bus.cursor = some 15
      ∧ (u.bay .a 14).map (fun e => (e.inFlight, e.waiting)) = some (some .closeLeaf, none) := by decide +kernel

theorem witness_MissesAreCounted_composed :
    Composed (calm (modBus .a (fun b => { b with outstanding := some ⟨.groupClose, false, 3#32⟩, turning := true })
      (faceIn .closing [14]))) := calm_composed _

/-- A group order opens a window of its own, and the turn's poll follows when it closes. -/
theorem test_group_window_ends :
    let s := after (.turn .a) (calm (endTurn .a (groupWarn .a true (faceIn .closing [14]))))
    let t := after (.answerWindowClosed .a) s
    t.time = 3#32 ∧ (t.face .a).bus.outstanding = some ⟨.poll 10 false, false, 6#32⟩
      ∧ (t.face .a).bus.out.length = 5 := by decide +kernel

/-- An outstanding query in each search state, and a set of attending addresses with a lowest one. -/
theorem witness_SearchFindsTheLowestAddress :
    ((calm (faceIn .empty [])).face .a).bus.outstanding = none
      ∧ (let s := calm (modBus .a
            (fun b => { b with search := .upper 30 0, outstanding := some ⟨.query 0 31, false, 3#32⟩ }) (faceIn .empty []));
          (s.face .a).bus.outstanding = some ⟨.query 0 31, false, 3#32⟩ ∧ (s.face .a).bus.turning = false)
      ∧ (let attends := fun a : Nat => a == 17 || a == 31;
          17 < 32 ∧ attends 17 = true ∧ ∀ a, a < 17 → attends a = false) := by
  refine ⟨by decide +kernel, by decide +kernel, by decide, by decide, ?_⟩
  intro a h
  simp only [Bool.or_eq_false_iff, beq_eq_false_iff_ne]
  omega

/-- A line with a candidate for each input. -/
theorem witness_LinesAreFiltered :
    ((calm State.reset).line .fire).since = none
      ∧ (let s := calm (modFace .a (fun b => { b with enable := ⟨false, true, some 0#32⟩ }) (faceIn .opened [14]));
          (s.line (.enable .a)).since = some 0#32 ∧ (s.face .a).seq.slot = none ∧ (s.line (.enable .a)).raw = false
            ∧ s.stateOf .a = .opened)
      ∧ (let s := calm (modFace .a (fun b => { b with loop := ⟨false, true, some 0#32⟩ }) (faceIn .berthed []));
          (s.line (.loop .a)).since = some 0#32 ∧ s.stateOf .a ≠ .outOfService ∧ s.stateOf .a ≠ .released
            ∧ (s.face .a).release.loop = false)
      ∧ (let s := calm { faceIn .berthed [] with fire := ⟨false, true, some 0#32⟩ };
          (s.line .fire).since = some 0#32 ∧ s.stateOf .a ≠ .outOfService ∧ (s.face .a).release.fire = false) := by
  decide +kernel

/-- ENABLE asserted 20 ms ago, with an order waiting for it, and asserted with one that waits for more. -/
theorem witness_LinesAreFiltered_opens :
    let s := calm (modFace .a (fun b => { b with enable := ⟨true, false, some 0#32⟩ }) (orderWaits (faceIn .berthed [])))
    let v := setLine (.enable .a) ⟨(s.line (.enable .a)).raw, (s.line (.enable .a)).raw, none⟩ (advanceTo (0#32 + 20#32) s)
    (s.line (.enable .a)).since = some 0#32 ∧ WouldOpen .a 42#8 v
      ∧ ¬MayOpen .a (modSeq .a (fun r => { r with grant := [] }) v) := by
  unfold WouldOpen MayOpen
  decide +kernel

theorem witness_LinesAreFiltered_composed :
    Composed (calm (modFace .a (fun b => { b with enable := ⟨false, true, some 0#32⟩ }) (faceIn .opened [14]))) :=
  calm_composed _

/-- An opening with bay 14 not open; a flow expiry at its limits; a hold not satisfied; auto close on. -/
theorem witness_OpeningAndDwellEnd :
    (let s := calm (modSeq .a (fun r => { r with openTravel := some 6000#32 }) (faceIn .opening [20]));
      (s.face .a).seq.openTravel = some 6000#32 ∧ s.stateOf .a = .opening ∧ (s.face .a).fault.summary = false
        ∧ (s.face .a).berth.vacant = false
        ∧ ((s.face .a).seq.grant.filter fun n => !(s.bay .a n).any BayEntry.leafOpen) = 14 :: []
        ∧ (s.face .a).seq.dwellDeadline = none)
      ∧ (let s := calm (modSeq .a (fun r => { r with extensions := 3, dwellDeadline := some 233200#32 }) (dwelling none));
          (s.face .a).seq.dwellDeadline = some 233200#32 ∧ s.stateOf .a = .opened
            ∧ (s.face .a).seq.dwell = some ⟨25, 1, 5⟩ ∧ (s.face .a).seq.extensions < (s.params .a).maxExtensions
            ∧ (s.face .a).sensing.lastPassage = some 231200#32
            ∧ ((advanceTo 233200#32 s).time - 231200#32).toNat ≤ (s.params .a).flowWindow * 1000
            ∧ (s.params .a).autoClose = 1 ∧ ∃ e ∈ (s.face .a).bays, e.locked = false)
      ∧ (let s := calm (dwelling (some ⟨20, 60, 13000, none, none⟩));
          ((advanceTo 237300#32 s).face .a).seq.hold = some ⟨20, 60, 13000, none, none⟩
            ∧ ¬((advanceTo 237300#32 s).time - 231200#32).toNat ≤ (s.params .a).flowWindow * 1000
            ∧ 13000 < 20 * 1000) := by decide +kernel

theorem witness_OpeningAndDwellEnd_composed (h : Option HoldRecord) : Composed (calm (dwelling h)) := calm_composed _

theorem witness_ConnectionWaitEnds :
    ((calm (faceIn .opened [14])).face .a).seq.hold = none
      ∧ (let s := calm connecting;
          (s.face .a).seq.substate = some .connectionWait
            ∧ (s.face .a).seq.hold = some ⟨20, 60, 13000, none, some 297300#32⟩ ∧ s.stateOf .a = .opened
            ∧ s.stateOf (otherFace .a) = .opened ∧ (s.params .a).autoClose = 1
            ∧ (∃ e ∈ (s.face .a).bays, e.locked = false)
            ∧ ((advanceTo 297300#32 s).face .a).seq.hold = some ⟨20, 60, 50300, none, some 297300#32⟩)
      ∧ (let s := calm (modSeq .b (fun r => { r with state := .closedLocked }) connecting);
          s.stateOf (otherFace .a) ≠ .opened ∧ 13000 < 20 * 1000) := by decide +kernel

theorem witness_ConnectionWaitEnds_composed : Composed (calm connecting) := calm_composed _

/-- Two bays that wait, one held by its doorway and one with its gap ACTIVE; and a bay in DOORWAY. -/
theorem witness_WarningAndDoorwayEnd :
    ((calm (faceIn .closing [14])).face .a).seq.closingKind = none
      ∧ (let s := calm (modBay .a 14 (fun e => { e with gap := some { active := true } })
            (modBay .a 20 (fun e => { e with beams := some { brokenB := true } })
              (closingWith ⟨14, .waiting, 2, none, false, false, none⟩ ⟨20, .waiting, 0, none, false, false, none⟩)));
          (s.face .a).seq.closingKind = some .normal ∧ (s.face .a).seq.endOfWarning = some 270000#32
            ∧ 2 < (s.params .a).closeRetries ∧ s.entry .a 14 = some ⟨14, .waiting, 2, none, false, false, none⟩ ∧ (s.bay .a 14).map (·.gapIsActive) = some true
            ∧ s.entry .a 20 = some ⟨20, .waiting, 0, none, false, false, none⟩
            ∧ (s.bay .a 20).map (·.doorwayHeld) = some true ∧ 0 < (s.params .a).doorwayHold)
      ∧ (let s := calm (closingWith ⟨14, .sent, 0, none, false, false, none⟩ ⟨20, .doorway, 0, none, false, false, none⟩);
          (s.face .a).seq.doorway = some 274000#32
            ∧ s.entry .a 20 = some ⟨20, .doorway, 0, none, false, false, none⟩
            ∧ (s.bay .a 20).map (·.gapIsActive) = some false) := by decide +kernel

/-- A closing whose bays 14 and 20 stand in a phase with their gaps ACTIVE, under a limit of retries and a mask. -/
def tripping (p : Phase) (retries retries' limit : Nat) (m : FlagSet) : State :=
  calm (modStore (fun st => st.modCfg .a fun c => { c with params := { c.params with closeRetries := limit } })
    (modFault .a (fun u => { u with mask := m })
      (modBay .a 14 (fun e => { e with gap := some { active := true } })
        (modBay .a 20 (fun e => { e with gap := some { active := true } })
          (closingWith ⟨14, p, retries, none, false, false, none⟩ ⟨20, p, retries', none, false, false, none⟩)))))

/-- Trips below, at and past the close retries, of which 0 is one, masked and not; and the statement's words for what
is held, what raises, what stops and what is ended can be given of any state. -/
theorem witness_WarningAndDoorwayEnd_past :
    (∀ p ∈ [Phase.waiting, .doorway], ∀ k ∈ [0, 2, 3], ∀ limit ∈ [0, 2], ∀ m ∈ [0x00#7, 0x02#7],
        let s := tripping p k 2 limit m;
        (s.face .a).seq.closingKind = some .normal ∧ (s.face .a).seq.endOfWarning = some 270000#32
          ∧ (s.face .a).seq.doorway = some 274000#32 ∧ (s.params .a).closeRetries = limit
          ∧ s.entry .a 14 = some ⟨14, p, k, none, false, false, none⟩
          ∧ s.entry .a 20 = some ⟨20, p, 2, none, false, false, none⟩
          ∧ (s.bay .a 14).map (fun e => (e.gapIsActive, e.doorwayHeld, e.granted, e.isolated))
            = some (true, false, true, false)
          ∧ FlagSet.has (s.face .a).fault.mask .obstruct = decide (m = 0x02#7)
          ∧ (s.face .a).fault.summary = false ∧ (s.stateOf .a).summaryMoves = true
          ∧ (s.face .a).fault.flags.obstruct = none ∧ (s.face .a).seq.closing.map (·.bay) = [14, 20])
      ∧ ∀ (stops : Prop), ∃ ended : ClosingEntry → ClosingEntry,
          ∀ x, (stops → ended x = { x with deadline := none, travel := none }) ∧ (¬stops → ended x = x) := by
  refine ⟨fun p hp k hk limit hl m hm => ?_, fun stops => ?_⟩
  · fin_cases hp <;> fin_cases hk <;> fin_cases hl <;> fin_cases hm <;> decide +kernel
  · by_cases h : stops
    · exact ⟨fun x => { x with deadline := none, travel := none }, fun x => ⟨fun _ => rfl, fun k => absurd h k⟩⟩
    · exact ⟨fun x => x, fun x => ⟨fun k => absurd k h, fun _ => rfl⟩⟩

/-- With no retry allowed, the end of warning leaves a bay that trips and holds the face; masked, the bay pauses, the
first count is posted and raised, and a later count is neither. -/
theorem test_trips_past_the_retries :
    let s := after (.endOfWarning .a) (tripping .waiting 0 0 0 0x00#7)
    let t := after (.doorwayDeadline .a) (tripping .doorway 0 1 0 0x02#7)
    s.stateOf .a = .held ∧ (s.entry .a 14).map (·.phase) = some .left ∧ (s.entry .a 20).map (·.phase) = some .left
      ∧ s.events.map (fun x => (x.kind, x.bay)) = [(.bayObstructed, some 14), (.bayObstructed, some 20), (.faultSet, some 14)]
      ∧ t.stateOf .a = .closing ∧ (t.entry .a 20).map (fun x => (x.phase, x.retries)) = some (.pause, 2)
      ∧ t.events.map (fun x => (x.kind, x.bay)) = [(.bayObstructed, some 14), (.faultSet, some 14)] := by decide +kernel

/-- Each of the three deadlines held, at and past the close retries, masked and not. -/
theorem witness_BayDeadlinesMoveTheirBay :
    ((calm (faceIn .closing [14])).face .a).seq.closingKind = none
      ∧ (let s := calm (closingWith ⟨14, .pause, 1, some 273900#32, false, false, none⟩ ⟨20, .locked, 0, none, false, false, none⟩);
          (s.face .a).seq.closingKind.isSome = true
            ∧ s.entry .a 14 = some ⟨14, .pause, 1, some 273900#32, false, false, none⟩
            ∧ (s.bay .a 14).map (·.gapIsActive) = some false)
      ∧ (let s := calm (closingWith ⟨14, .sent, 2, none, false, false, some 276000#32⟩ ⟨20, .sent, 3, none, false, false, some 276000#32⟩);
          s.entry .a 14 = some ⟨14, .sent, 2, none, false, false, some 276000#32⟩ ∧ 2 < (s.params .a).closeRetries
            ∧ s.entry .a 20 = some ⟨20, .sent, 3, none, false, false, some 276000#32⟩ ∧ (s.params .a).closeRetries ≤ 3
            ∧ FlagSet.has (s.face .a).fault.mask .obstruct = false ∧ s.stateOf .a = .closing
            ∧ (s.face .a).fault.summary = false ∧ s.stateOf .a ≠ .outOfService)
      ∧ (let s := calm (modFault .a (fun u => { u with mask := 0x02#7 })
            (closingWith ⟨14, .sent, 3, none, false, false, some 276000#32⟩
              ⟨20, .sent, 4, some 276100#32, true, true, some 276000#32⟩));
          s.entry .a 14 = some ⟨14, .sent, 3, none, false, false, some 276000#32⟩
            ∧ s.entry .a 20 = some ⟨20, .sent, 4, some 276100#32, true, true, some 276000#32⟩
            ∧ (s.params .a).closeRetries = 3 ∧ FlagSet.has (s.face .a).fault.mask .obstruct = true)
      ∧ (let s := calm (modFault .a (fun u => { u with mask := 0x04#7 })
            (closingWith ⟨14, .sent, 0, some 274100#32, true, true, none⟩ ⟨20, .sent, 0, some 274100#32, false, true, none⟩));
          s.entry .a 14 = some ⟨14, .sent, 0, some 274100#32, true, true, none⟩
            ∧ s.entry .a 20 = some ⟨20, .sent, 0, some 274100#32, false, true, none⟩
            ∧ FlagSet.has (s.face .a).fault.mask .lock = true ∧ s.stateOf .a ≠ .outOfService)
      ∧ (let s := calm (closingWith ⟨14, .sent, 0, some 274100#32, false, true, none⟩ ⟨20, .locked, 0, none, false, false, none⟩);
          s.stateOf .a = .closing ∧ FlagSet.has (s.face .a).fault.mask .lock = false) := by decide +kernel

/-- A closing of bay 14 in a phase, with its transaction outstanding, a gap that has been seen otherwise for longer
than its qualification time, and beams of which one is broken or none. -/
def answering (p : Phase) (retries : Nat) (active broken : Bool) (m : FlagSet) : State :=
  calm (modFault .a (fun u => { u with mask := m })
    (modBay .a 14
      (fun e => { e with gap := some ⟨active, some 269000#32, some 3, none⟩, beams := some { brokenA := broken } })
      (modBus .a (fun b => { b with outstanding := some ⟨.poll 14 false, false, 270003#32⟩ })
        (closingWith ⟨14, p, retries, some 276000#32, false, false, some 276000#32⟩
          ⟨20, .locked, 0, none, false, false, none⟩))))

/-- Reports of a bay in each phase: below the close retries and at them, masked and not, with its gap steady and
turning, and its beams made and broken. -/
theorem witness_BayDeadlinesMoveTheirBay_reports :
    (∀ p ∈ [Phase.waiting, .doorway, .sent, .pause, .gapWait, .locked, .left],
      ∀ k ∈ [2, 3], ∀ active ∈ [true, false], ∀ m ∈ [0x00#7, 0x02#7],
        let s := answering p k active true m;
        (s.face .a).bus.outstanding = some ⟨.poll 14 false, false, 270003#32⟩ ∧ s.stateOf .a = .closing
          ∧ (s.face .a).seq.closingKind.isSome = true ∧ 2147483648 ≤ (s.time - 270003#32).toNat
          ∧ s.entry .a 14 = some ⟨14, p, k, some 276000#32, false, false, some 276000#32⟩
          ∧ (s.bay .a 14).map (·.gap) = some (some ⟨active, some 269000#32, some 3, none⟩)
          ∧ (s.bay .a 14).map (fun e => (e.granted, e.isolated)) = some (true, false)
          ∧ 14 ∉ (s.face .a).release.pulled ∧ (s.params .a).closeRetries = 3
          ∧ (s.params .a).gapQualify ≤ (s.time - 269000#32).toNat ∧ (s.face .a).fault.summary = false)
      ∧ (∀ g ∈ [true, false], ∀ o ∈ [true, false], ∀ l ∈ [Leaf.closed, .closing],
          let r : Report := ⟨l, false, o, false, g, 3, [⟨.a, true, 5⟩], false⟩;
          reportOf 14 (answerOf 14 r) = some r ∧ beamAfter .a true r.events = false ∧ beamAfter .b false r.events = false)
      ∧ beamAfter .a true [] = true := by
  refine ⟨fun p hp k hk active ha m hm => ?_, by decide +kernel⟩
  fin_cases hp <;> fin_cases hk <;> fin_cases ha <;> fin_cases hm <;> decide +kernel

theorem witness_BayDeadlinesMoveTheirBay_turning :
    GapTurns ⟨.closing, false, false, false, true, 3, [], false⟩
      { num := 14, gap := some ⟨false, some 269000#32, some 3, none⟩ } 300 270000#32 :=
  ⟨_, _, rfl, by decide, rfl, by decide, by decide⟩

/-- A closing bay's reports: the leaf closed and not yet locked, an obstacle past the close retries, a bay no longer
locked, a doorway cleared, and a gap that turns ACTIVE in SENT and CLEAR in GAP_WAIT. -/
theorem test_closing_reports :
    let r : Report := ⟨.closing, false, false, false, false, 3, [], false⟩
    let go := fun r s => after (.reportAnswer .a (answerOf 14 r)) s
    ([go { r with leaf := .closed } (answering .sent 2 false false 0x00#7),
        go { r with obstacle := true } (answering .sent 3 false false 0x00#7),
        go r (answering .locked 2 false false 0x00#7),
        go { r with events := [⟨.a, true, 5⟩] } (answering .doorway 2 false true 0x00#7),
        go { r with gapActive := true } (answering .sent 2 false false 0x00#7),
        go r (answering .gapWait 2 true false 0x00#7)].map
      fun s => (s.entry .a 14).map fun e => (e.phase, e.retries, e.deadline))
    = [some (.sent, 2, some 271500#32), some (.left, 4, none), some (.sent, 2, none), some (.sent, 2, none),
        some (.pause, 3, some 272000#32), some (.sent, 2, none)] := by decide +kernel

/-- With OBSTRUCT masked the first count above the close retries is posted and raised, and a later one is not; the
repeated CLOSE of the lock proof has a travel limit of its own. -/
theorem test_masked_retries :
    let s := modFault .a (fun u => { u with mask := 0x06#7 })
      (closingWith ⟨14, .sent, 3, none, false, false, some 276000#32⟩
        ⟨20, .sent, 4, some 276100#32, false, true, some 276000#32⟩)
    let t := after (.closeTravelLimit .a 14) (calm s)
    let u := after (.closeTravelLimit .a 20) (calm s)
    let v := after (.lockProofDeadline .a 20) (calm s)
    t.stateOf .a = .closing ∧ (t.entry .a 14).map (·.retries) = some 4
      ∧ t.events.map (·.kind) = [.bayObstructed, .faultSet] ∧ u.events = []
      ∧ (v.entry .a 20).bind (·.travel) = some 282100#32 := by decide +kernel

theorem witness_BayDeadlinesMoveTheirBay_composed :
    Composed (calm (modBay .a 14 (fun e => { e with gap := some { active := true } })
      (closingWith ⟨14, .pause, 1, some 273900#32, false, false, none⟩ ⟨20, .locked, 0, none, false, false, none⟩))) :=
  calm_composed _

/-- A gap interval that reaches its qualification time, a passage of breaks exactly the window apart, and a decoder
in each state with each edge. -/
theorem witness_SensingFollowsItsTables :
    (let r : Report :=
        { lockedReport with
          gapActive := true
          events := [⟨.a, false, 900⟩, ⟨.b, false, 300⟩, ⟨.a, true, 300⟩, ⟨.b, true, 0⟩] };
      let s := calm (modBay .a 14 (fun e => { e with gap := some ⟨false, some 0#32, some 0, none⟩ })
        (modBus .a (fun b => { b with outstanding := some ⟨.poll 14 false, false, 303#32⟩ })
          { faceIn .opened [] with time := 300#32 }));
      (s.face .a).bus.outstanding = some ⟨.poll 14 false, false, 303#32⟩ ∧ reportOf 14 (answerOf 14 r) = some r
        ∧ 2147483648 ≤ (s.time - 303#32).toNat
        ∧ (s.bay .a 14).map (·.gap) = some (some ⟨false, some 0#32, some 0, none⟩)
        ∧ (s.bay .a 14).map (·.silent) = some false
        ∧ ¬(s.time - 0#32).toNat < (s.params .a).gapQualify
        ∧ r.pulled = false ∧ 14 ∉ (s.face .a).release.pulled
        ∧ (s.bay .a 14).map (·.beams) = some (some {}) ∧ s.stateOf .a ≠ .survey
        ∧ 900 - 300 ≤ (s.params .a).pairingWindow ∧ (s.params .a).pairingWindow < 1023 - 300)
      ∧ (∀ v ∈ [(⟨.a, false, 1023⟩ : BeamEvent), ⟨.a, true, 0⟩, ⟨.b, false, 0⟩, ⟨.b, true, 1023⟩],
          reportOf 14 (answerOf 14 { lockedReport with events := [v] }) = some { lockedReport with events := [v] })
      ∧ ({} : Decoder).broken .a = false ∧ ({} : Decoder).broken .b = false
      ∧ (let d : Decoder := { brokenA := true, state := .aFirst, firstBreak := some 0#32 };
          d.broken .a = true ∧ d.broken .b = false ∧ d.state = (if Side.a = .a then .aFirst else .bFirst)
            ∧ d.firstBreak = some 0#32)
      ∧ (let d : Decoder := { brokenB := true, state := .bothIn, entrySide := some .a };
          d.broken .b = true ∧ d.broken .a = false ∧ d.state = .bothIn ∧ d.entrySide = some .a)
      ∧ (let d : Decoder := { brokenA := true, brokenB := true, state := .bothIn, entrySide := some .b };
          d.broken .a = true ∧ d.broken .b = true) := by decide +kernel

/-- A gap that turns ACTIVE at an EMPTY face, where it raises GAP, and at one whose passengers cross. -/
theorem witness_SensingFollowsItsTables_raises :
    ∀ st ∈ [FaceState.empty, .closedLocked, .opened],
      let s := calm (modBay .a 14 (fun e => { e with gap := some ⟨false, some 0#32, some 3, none⟩ })
        (polling 14 { faceIn st [] with time := 300#32 }));
      s.stateOf .a = st ∧ (s.params .a).gapQualify ≤ (s.time - 0#32).toNat ∧ 14 ∉ (s.face .a).release.pulled
        ∧ FlagSet.has (s.face .a).fault.mask .gap = false ∧ (s.face .a).fault.summary = false
        ∧ (s.face .a).fault.flags.gap = none ∧ (s.face .a).seq.closingKind = none := by decide +kernel

/-- A configured face, open, meets the standing rules and idles. -/
theorem witness_standing : Standing (calm (faceIn .opened [14])) where
  queues := by unfold QueuesBounded; decide +kernel
  unmasked := by intro f; cases f <;> decide +kernel
  holds := by unfold HoldsExclusive; decide +kernel
  lists := by intro f; cases f <;> decide +kernel

theorem witness_collections : CollectionsBounded (calm (faceIn .opened [14])) := by
  unfold CollectionsBounded Ascending ConsistInRange doorInRange
  and_intros <;> first | decide +kernel | (rintro (_ | _) <;> decide +kernel)

theorem witness_EveryStepKeepsTheStandingRules :
    step (calm (faceIn .opened [14])) = .next (tick (calm (faceIn .opened [14]))) := by rfl

/-- A face whose permit stands takes a command. -/
theorem witness_PermitIsTheComposition :
    (let s := { calm (faceIn .closedLocked []) with pending := [.turn .a] };
      PermitComposed s ∧ (s.face .a).permit = true ∧ step s = .next (after (.turn .a) { s with pending := [] })) := by
  refine ⟨⟨calm_composed _, ?_, ?_⟩, by decide +kernel, by rfl⟩
  · intro f; cases f <;> (intro _; decide +kernel)
  · intro h; exact absurd h (by decide +kernel)

/-- Both faces' permits stand, and FIRE is about to be accepted active. -/
def bothPermitted : State :=
  let s := faceIn .closedLocked []
  calm { s with faces := ⟨s.faces.a, s.faces.a⟩, fire := ⟨false, true, some 0#32⟩ }

/-- A permit that a loop reading open withdraws, both permits that FIRE withdraws, and a RESTART. -/
theorem witness_PermitIsTheComposition_changes :
    (let s := calm (modFace .a (fun b => { b with loop := ⟨false, true, some 0#32⟩ }) (faceIn .closedLocked []));
      let t := after (.lineFilterExpiry (.loop .a)) s;
      Composed s ∧ step { s with pending := [.lineFilterExpiry (.loop .a)] } = .next t
        ∧ (t.face .a).permit ≠ (s.face .a).permit ∧ (t.face .b).permit = (s.face .b).permit
        ∧ t.events.map (·.kind) = [.releaseEntered, .faultSet, .permitChanged])
      ∧ (let s := bothPermitted;
          let t := after (.lineFilterExpiry .fire) s;
          Composed s ∧ step { s with pending := [.lineFilterExpiry .fire] } = .next t
            ∧ (t.face .a).permit ≠ (s.face .a).permit ∧ (t.face .b).permit ≠ (s.face .b).permit
            ∧ t.events.length < Config.queueSize)
      ∧ (let s := bothPermitted;
          ({ s with pending := [.restart 1#8 []], rx := [⟨0x03#8, 1#8, []⟩] } : State).pending.head?
            = some (.restart 1#8 []) ∧ (s.face .a).permit = true) :=
  ⟨⟨calm_composed _, rfl, by decide +kernel⟩, ⟨calm_composed _, rfl, by decide +kernel⟩, by decide +kernel⟩

end Sys2Proof.Tests
end

section
/-!
SUPPORT. Configuration is needed (R2): what each request command carries out, how far the requests that
need configuration are examined alike, and that the other requests are never refused for want of it.
-/

namespace Sys2Proof.Machine

open Sys2Proof.Safety

/-! ### What a request command carries out -/

/-- The body that a request's command serves. The command of RESTART serves one for a payload that is not empty
alone; a command that is no request has none, and stands with the unknown kinds. -/
def requestBody : Instr → Body
  | .identify _ p => identifyBody p
  | .timeSet _ p => timeSetBody p
  | .restart _ _ => refuse .badLength
  | .loadBegin _ p => loadBeginBody p
  | .loadRecordBay _ fs => loadRecordBody (1#8 :: fs)
  | .loadRecordCell _ fs => loadRecordBody (2#8 :: fs)
  | .consistFirstPart _ code rest => loadRecordBody (3#8 :: code :: 1#8 :: rest)
  | .consistContinuation _ fs => loadRecordBody (3#8 :: fs)
  | .loadRecordStop _ fs => loadRecordBody (4#8 :: fs)
  | .loadRecordParam _ fs => loadRecordBody (5#8 :: fs)
  | .loadRecordUnknownKind _ p => loadRecordBody p
  | .loadEnd _ p => loadEndBody p
  | .loadEndEarly _ p => loadEndBody p
  | .loadAbandon _ p => loadAbandonBody p
  | .statusFace _ p => statusFaceBody p
  | .statusBays _ p => statusBaysBody p
  | .readAlignment _ p => readAlignmentBody p
  | .readCounts _ p => readCountsBody p
  | .readFaults _ p => readFaultsBody p
  | .readRelease _ p => readReleaseBody p
  | .expectConsist _ p => expectConsistBody p
  | .openOrder _ p => openOrderBody p
  | .withdrawOrder _ p => withdrawOrderBody p
  | .closeOrder _ p => closeOrderBody p
  | .remeasure _ p => remeasureBody p
  | .dwellSet _ p => dwellSetBody p
  | .connectHold _ p => connectHoldBody p
  | .connectCancel _ p => connectCancelBody p
  | .isolateBay _ p => isolationBody true p
  | .restoreBay _ p => isolationBody false p
  | .faultMask _ p => faultMaskBody p
  | .faultClear _ p => faultClearBody p
  | .faceResume _ p => faceResumeBody p
  | .emergencyOpen _ p => emergencyOpenBody p
  | .releaseReset _ p => releaseResetBody p
  | .fetchEvents _ p => fetchEventsBody p
  | .fetchEventsRepeat _ p => fetchEventsBody p
  | _ => refuse .unknownKind

/-- An UNKNOWN_KIND command that is a request frame has a kind that names no request. -/
theorem requestFrame_unknownKind {kind tag : Byte} {p : List Byte} {fr : Frame}
    (h : requestFrame (.unknownKind kind tag p) = some fr) :
    namesRequest kind = false ∧ fr = ⟨kind, tag, p⟩ := by
  simp only [requestFrame, Option.ite_none_left_eq_some, Bool.not_eq_true] at h
  exact ⟨h.1, (Option.some.inj h.2).symm⟩

/-- Every request but a RESTART of the right length is served with its body. -/
theorem exec_request {c : Instr} {fr : Frame} (h : requestFrame c = some fr)
    (hr : ∀ tag, c ≠ .restart tag []) (s : State) : exec c s = .next (serve fr (requestBody c) s) := by
  cases c with
  | restart tag p =>
    cases h
    have hp : (p.length == 0) = false := by
      cases p with
      | nil => exact absurd rfl (hr tag)
      | cons => rfl
    simp [exec, execRestart, requestBody, hp]
  | unknownKind kind tag p =>
    obtain ⟨hk, rfl⟩ := requestFrame_unknownKind h
    simp [exec, execUnknownKind, requestBody, hk]
  | _ => cases h <;> rfl

/-- A RESTART of the right length at the front of the buffer is carried out. -/
theorem exec_restart {tag : Byte} {s : State} (h : Front ⟨0x03#8, tag, []⟩ s) :
    exec (.restart tag []) s = .next (restart ⟨0x03#8, tag, []⟩ s) := by
  simp [exec, execRestart, front_atFront h]

/-! ### The requests that need configuration -/

theorem lengthFits_of_ne {kind : Byte} (h : kind ≠ 0x05#8) (tag : Byte) (p : List Byte) :
    lengthFits ⟨kind, tag, p⟩ = (lawfulLengths kind.toNat).contains p.length := if_neg h

/-- A face request of the one length laid down for its kind. -/
theorem faceRequest_examined {kind : Byte} {len : Nat} (h : kind ≠ 0x05#8)
    (hl : lawfulLengths kind.toNat = [len]) (tag : Byte) (p : List Byte) (k : Face → Body) :
    faceRequest len p k = needLength (lengthFits ⟨kind, tag, p⟩) (needFace p fun f => needConfig (k f)) := by
  simp [faceRequest, lengthFits_of_ne h, hl, beq_eq_decide]

/-- A request that needs configuration is examined for its length, its face and the configuration, in this order
and before anything else (R2, R161). -/
theorem requestBody_examined {c : Instr} {fr : Frame} (h : requestFrame c = some fr)
    (hn : needsConfiguration fr.kind = true) :
    ∃ k : Face → Body, requestBody c
      = needLength (lengthFits fr) (needFace fr.payload fun f => needConfig (k f)) := by
  cases c with
  | statusBays | readAlignment | readCounts | readFaults | readRelease | openOrder | withdrawOrder | closeOrder
  | remeasure | dwellSet | connectHold | connectCancel | isolateBay | restoreBay | faultMask | faultClear
  | faceResume | emergencyOpen | releaseReset =>
    cases h
    exact ⟨_, faceRequest_examined (by decide) (by decide) _ _ _⟩
  | expectConsist tag p =>
    cases h
    have hl : lengthFits ⟨0x0E#8, tag, p⟩ = (p.length == 3 || p.length == 5) := by
      simp [lengthFits, lawfulLengths, beq_eq_decide]
    rw [hl]
    exact ⟨_, rfl⟩
  | unknownKind kind tag p =>
    obtain ⟨hk, rfl⟩ := requestFrame_unknownKind h
    simp only [namesRequest, needsConfiguration, decide_eq_true_eq, decide_eq_false_iff_not] at hk hn
    omega
  | _ => cases h <;> exact absurd hn Bool.false_ne_true

/-- Past the checks of length and face, a request that needs configuration asks for it (R2). -/
theorem requestBody_needConfig {c : Instr} {fr : Frame} (h : requestFrame c = some fr)
    (hn : needsConfiguration fr.kind = true) (hl : lengthFits fr = true) (hf : (frameFace fr).isSome = true) :
    ∃ k : Body, requestBody c = needConfig k := by
  obtain ⟨k, hk⟩ := requestBody_examined h hn
  obtain ⟨f, hf⟩ := Option.isSome_iff_exists.mp hf
  exact ⟨k f, by rw [hk, hl, needLength_true, needFace_some hf]⟩

/-! ### The requests that need none -/

/-- What a body comes to at `s` is neither refusal of R2, and nothing is sent before the reply. -/
structure AnsweredFreely (s : State) (x : State × Reply) : Prop where
  notLoading : x.2.status ≠ .loading
  notNoConfig : x.2.status ≠ .noConfig
  sent : x.1.stationOut = s.stationOut

theorem refuse_answeredFreely {st : Status} (hl : st ≠ .loading) (hn : st ≠ .noConfig) (s : State) :
    AnsweredFreely s (refuse st s) := ⟨hl, hn, rfl⟩

theorem answer_answeredFreely (fields : State → List Byte) (s : State) :
    AnsweredFreely s (answer fields s) := ⟨nofun, nofun, rfl⟩

/-- DONE, after work that sends nothing. -/
theorem finish_answeredFreely {s u : State} (h : u.stationOut = s.stationOut) (fields : State → List Byte) :
    AnsweredFreely s (finish .done fields u) := ⟨nofun, nofun, (settle_stationOut u).trans h⟩

theorem needLength_answeredFreely {k : Body} {s : State} (h : AnsweredFreely s (k s)) (ok : Bool) :
    AnsweredFreely s (needLength ok k s) := by
  cases ok with
  | true => exact h
  | false => exact refuse_answeredFreely (st := .badLength) nofun nofun s

theorem needFace_answeredFreely {k : Face → Body} {s : State} (h : ∀ f, AnsweredFreely s (k f s))
    (p : List Byte) : AnsweredFreely s (needFace p k s) := by
  cases hf : faceOfByte (p.getD 0 0xFF#8) with
  | some f => rw [needFace_some hf]; exact h f
  | none => rw [needFace_none hf]; exact refuse_answeredFreely (st := .badFace) nofun nofun s

@[simp] theorem outOfService_stationOut (f : Face) (s : State) :
    (outOfService f s).stationOut = s.stationOut := (within_lapse f s).stationOut

@[simp] theorem beginLoad_stationOut (s : State) : (beginLoad s).stationOut = s.stationOut := by
  simp [beginLoad]

/-- A face that enters SURVEY from reset records sends nothing on the Station Link. -/
theorem endTurn_surveyAfresh_stationOut (f : Face) (s : State) :
    (endTurn f (surveyAfresh f s)).stationOut = s.stationOut :=
  ((within_surveyAfresh f s).then (within_endTurn f _)).stationOut

@[simp] theorem bringIn_stationOut (f : Face) (s : State) : (bringIn f s).stationOut = s.stationOut :=
  endTurn_surveyAfresh_stationOut f _

@[simp] theorem completeLoad_stationOut (pass : PerFace Bool) (s : State) :
    (completeLoad pass s).stationOut = s.stationOut := by
  unfold completeLoad
  cases pass.a <;> cases pass.b <;> simp

theorem identifyBody_answeredFreely (p : List Byte) (s : State) : AnsweredFreely s (identifyBody p s) :=
  needLength_answeredFreely (answer_answeredFreely _ s) _

theorem timeSetBody_answeredFreely (p : List Byte) (s : State) : AnsweredFreely s (timeSetBody p s) :=
  needLength_answeredFreely (by exact ⟨nofun, nofun, rfl⟩) _

theorem statusFaceBody_answeredFreely (p : List Byte) (s : State) : AnsweredFreely s (statusFaceBody p s) :=
  needLength_answeredFreely (needFace_answeredFreely (fun _ => answer_answeredFreely _ s) p) _

theorem loadBeginBody_answeredFreely (p : List Byte) (s : State) : AnsweredFreely s (loadBeginBody p s) := by
  refine needLength_answeredFreely ?_ _
  split
  · exact finish_answeredFreely (beginLoad_stationOut s) _
  · exact refuse_answeredFreely (st := .state) nofun nofun s

theorem loadRecordBody_answeredFreely (p : List Byte) (s : State) : AnsweredFreely s (loadRecordBody p s) := by
  refine needLength_answeredFreely ?_ _
  split
  · cases examineRecord s.store p <;> exact ⟨nofun, nofun, rfl⟩
  · exact refuse_answeredFreely (st := .state) nofun nofun s

theorem loadEndBody_answeredFreely (p : List Byte) (s : State) : AnsweredFreely s (loadEndBody p s) := by
  refine needLength_answeredFreely ?_ _
  split
  · cases loadOutcome s.store (byteAt p 0 != 0) with
    | inl x => exact ⟨nofun, nofun, rfl⟩
    | inr pass => exact finish_answeredFreely (completeLoad_stationOut pass s) _
  · exact refuse_answeredFreely (st := .state) nofun nofun s

theorem loadAbandonBody_answeredFreely (p : List Byte) (s : State) : AnsweredFreely s (loadAbandonBody p s) := by
  refine needLength_answeredFreely ?_ _
  split
  · exact finish_answeredFreely (modStore_stationOut _ s) _
  · exact refuse_answeredFreely (st := .state) nofun nofun s

theorem fetchEventsBody_answeredFreely (p : List Byte) (s : State) : AnsweredFreely s (fetchEventsBody p s) := by
  refine needLength_answeredFreely ⟨?_, ?_, ?_⟩ _
  · exact nofun
  · exact nofun
  · dsimp only
    split <;> rfl

/-- A request that needs no configuration, and a kind that names no request, meets neither refusal of R2. -/
theorem requestBody_answeredFreely {c : Instr} {fr : Frame} (h : requestFrame c = some fr)
    (hn : needsConfiguration fr.kind = false) (s : State) : AnsweredFreely s (requestBody c s) := by
  cases c with
  | identify _ p => exact identifyBody_answeredFreely p s
  | timeSet _ p => exact timeSetBody_answeredFreely p s
  | loadBegin _ p => exact loadBeginBody_answeredFreely p s
  | loadRecordBay | loadRecordCell | consistFirstPart | consistContinuation | loadRecordStop | loadRecordParam
  | loadRecordUnknownKind => exact loadRecordBody_answeredFreely _ s
  | loadEnd _ p | loadEndEarly _ p => exact loadEndBody_answeredFreely p s
  | loadAbandon _ p => exact loadAbandonBody_answeredFreely p s
  | statusFace _ p => exact statusFaceBody_answeredFreely p s
  | fetchEvents _ p | fetchEventsRepeat _ p => exact fetchEventsBody_answeredFreely p s
  | restart => exact refuse_answeredFreely (st := .badLength) nofun nofun s
  | unknownKind => exact refuse_answeredFreely (st := .unknownKind) nofun nofun s
  | _ => cases h <;> exact absurd hn.symm Bool.false_ne_true

/-! ### The replies sent -/

/-- A body that sends nothing of its own is followed by its reply's frame. -/
theorem serve_stationOut {fr : Frame} {body : Body} {s : State} (h : Front fr s)
    (hb : (body s).1.stationOut = s.stationOut) :
    (serve fr body s).stationOut
      = s.stationOut ++ [stationFrame fr.kind fr.tag ((body s).1.replyPayload (body s).2)] := by
  rw [serve_front (front_atFront h), leaveBuffer_stationOut, ← hb]
  rfl

@[simp] theorem restartFace_stationOut (f : Face) (s : State) : (restartFace f s).stationOut = s.stationOut := by
  unfold restartFace
  dsimp only
  split
  · exact endTurn_surveyAfresh_stationOut f _
  · rfl

@[simp] theorem resetWorking_stationOut (s : State) : (resetWorking s).stationOut = s.stationOut := by
  simp [resetWorking]

@[simp] theorem dropHeld_stationOut (s : State) : (dropHeld s).stationOut = s.stationOut := by
  unfold dropHeld
  split <;> rfl

/-- RESTART sends its reply, built on the state before, and its reset sends nothing (R167). -/
theorem restart_stationOut (fr : Frame) (s : State) :
    (restart fr s).stationOut
      = s.stationOut ++ [stationFrame fr.kind fr.tag (s.replyPayload ⟨.done, []⟩)] := by
  simp [restart, sendReply]

/-! ### The obligation -/

/-- A request that needs configuration, refused because it is not in force (R2). -/
theorem exec_needsConfiguration {c : Instr} {fr : Frame} {s : State} {st : Status} (h : requestFrame c = some fr)
    (hfront : Front fr s) (hn : needsConfiguration fr.kind = true) (hl : lengthFits fr = true)
    (hf : (frameFace fr).isSome = true) (hs : ∀ k, needConfig k s = refuse st s) :
    ∃ t, exec c s = .next t ∧ OnlyReplied fr st [] s t := by
  obtain ⟨k, hk⟩ := requestBody_needConfig h hn hl hf
  have hr : ∀ tag, c ≠ .restart tag [] := by
    rintro tag rfl
    cases h
    exact absurd hn Bool.false_ne_true
  exact ⟨_, exec_request h hr s, serve_refuse hfront (by rw [hk, hs])⟩

/-- Settles O6. A request that needs configuration is refused by the fourth step of its examination (R161). The
others are split into a RESTART of the right length, which has a reply of its own, and the requests served with a
body, none of which asks for the configuration. -/
theorem configurationIsNeeded : Obligations.ConfigurationIsNeeded := by
  intro c fr s h hfront
  refine ⟨fun hn hl hf => ⟨fun hload => ?_, fun hidle hvalid => ?_⟩, fun hn => ?_⟩
  · exact exec_needsConfiguration h hfront hn hl hf (needConfig_loading hload)
  · exact exec_needsConfiguration h hfront hn hl hf (needConfig_none hidle hvalid)
  · by_cases hr : ∃ tag, c = .restart tag []
    · obtain ⟨tag, rfl⟩ := hr
      cases h
      exact ⟨_, .done, _, _, [], exec_restart hfront, nofun, nofun, restart_stationOut _ s⟩
    · have free := requestBody_answeredFreely h hn s
      exact ⟨_, _, _, _, _, exec_request h (fun tag hc => hr ⟨tag, hc⟩) s, free.notLoading, free.notNoConfig,
        serve_stationOut hfront free.sent⟩

end Sys2Proof.Machine
end

section
/-!
SUPPORT. The judging of a sample (R44 to R47): which cell is the strongest, which neighbour the offset is taken
toward, and that the offset leads no farther than that neighbour.
-/

namespace Sys2Proof.Machine

/-! ### The strongest cell and its ghosts (R44, R45) -/

theorem strongest_lt (ss : List Strength) {n : Nat} (hn : 0 < n) : strongest ss n < n := by
  induction n with
  | zero => exact absurd hn (Nat.lt_irrefl 0)
  | succ n ih =>
    rw [strongest]
    split
    · exact Nat.lt_succ_self n
    · rcases n.eq_zero_or_pos with rfl | hpos
      · exact Nat.zero_lt_one
      · exact Nat.lt_succ_of_lt (ih hpos)

/-- The strongest of cells 0 to n − 1 is the one that none of them exceeds and that exceeds all before it. -/
theorem strongest_eq {ss : List Strength} {n k : Nat} (hk : k < n)
    (hmax : ∀ i, i < n → strengthAt ss i ≤ strengthAt ss k)
    (hfirst : ∀ i, i < k → strengthAt ss i < strengthAt ss k) : strongest ss n = k := by
  induction n with
  | zero => exact absurd hk (Nat.not_lt_zero k)
  | succ n ih =>
    rw [strongest]
    rcases Nat.lt_succ_iff_lt_or_eq.mp hk with hlt | rfl
    · rw [ih hlt fun i hi => hmax i (Nat.lt_succ_of_lt hi)]
      exact if_neg (Nat.not_lt.mpr (hmax n (Nat.lt_succ_self n)))
    · rcases k.eq_zero_or_pos with rfl | hpos
      · exact ite_self 0
      · exact if_pos (hfirst _ (strongest_lt ss hpos))

theorem isGhost_iff {ss : List Strength} {n k : Nat} :
    isGhost ss n k = true ↔
      ∃ i, i < n ∧ i ≠ k ∧ i + 1 ≠ k ∧ i ≠ k + 1 ∧ strengthAt ss k < 2 * strengthAt ss i := by
  simp [isGhost]

/-! ### The neighbour and the offset (R46) -/

/-- Cell j is the neighbour of cell k that R46 chooses in a row of n cells. -/
def IsNeighbour (ss : List Strength) (n k j : Nat) : Prop :=
  k = 0 ∧ j = 1 ∨ k + 1 = n ∧ j + 1 = k
    ∨ 0 < k ∧ k + 1 < n
      ∧ (j + 1 = k ∧ strengthAt ss (k + 1) < strengthAt ss j
        ∨ j = k + 1 ∧ strengthAt ss (k - 1) < strengthAt ss j)

theorem neighbour_of_isNeighbour {ss : List Strength} {n k j : Nat} (hn : 2 ≤ n) (h : IsNeighbour ss n k j) :
    neighbour ss n k = some j := by
  rcases h with ⟨rfl, rfl⟩ | ⟨rfl, rfl⟩ | ⟨hpos, hin, ⟨rfl, hs⟩ | ⟨rfl, hs⟩⟩
  · rfl
  · simp [neighbour]
  · have hne : j + 1 + 1 ≠ n := hin.ne
    simp [neighbour, hne, hs, hs.le]
  · simp [neighbour, hpos.ne', hin.ne, hs]

theorem neighbour_of_equal {ss : List Strength} {n k : Nat} (hpos : 0 < k) (hin : k + 1 < n)
    (h : strengthAt ss (k - 1) = strengthAt ss (k + 1)) : neighbour ss n k = none := by
  simp [neighbour, hpos.ne', hin.ne, h]

/-- A share v + w of which w is taken, truncated toward zero, does not lead past the far end. -/
theorem tdiv_share_mem_uIcc (D : Int) (v w : Nat) :
    Int.tdiv (D * w) ((v : Int) + w) ∈ Set.uIcc 0 D := by
  have magnitude (m : Nat) : Int.tdiv ((m : Int) * w) ((v : Int) + w) ∈ Set.Icc (0 : Int) m := by
    have hle : m * w / (v + w) ≤ m := by
      apply Nat.div_le_of_le_mul
      rw [Nat.mul_comm]
      exact Nat.mul_le_mul_right m (Nat.le_add_left w v)
    have hdiv : Int.tdiv ((m : Int) * w) ((v : Int) + w) = (m * w / (v + w) : Nat) := by
      rw [Int.tdiv_eq_ediv_of_nonneg (by positivity)]
      push_cast
      rfl
    rw [hdiv]
    exact ⟨Int.natCast_nonneg _, Int.ofNat_le.mpr hle⟩
  obtain ⟨m, rfl | rfl⟩ := D.eq_nat_or_neg
  · rw [Set.uIcc_of_le (Int.natCast_nonneg m)]
    exact magnitude m
  · obtain ⟨hlow, hhigh⟩ := magnitude m
    rw [Int.neg_mul, Int.neg_tdiv, Set.uIcc_of_ge (by omega)]
    exact ⟨by omega, by omega⟩

theorem neighbour_lt {ss : List Strength} {n k j : Nat} (hn : 2 ≤ n) (hk : k < n) (h : neighbour ss n k = some j) :
    j < n := by
  unfold neighbour at h
  split_ifs at h with hfirst hlast hup hdown
  · cases h
    exact hn
  · cases h
    exact (Nat.sub_le k 1).trans_lt hk
  · cases h
    exact Nat.lt_of_le_of_ne hk hlast
  · cases h
    exact (Nat.sub_le k 1).trans_lt hk

theorem exists_centre_eq {cells : List Cell} {i : Nat} (hi : i < cells.length) :
    ∃ x ∈ cells, x.centre = centreAt cells i :=
  ⟨cells[i], List.getElem_mem hi, by simp [centreAt, hi]⟩

/-- The position lies between the centres of two cells: the strongest cell's and the neighbour's, in either order. -/
theorem position_between {cells : List Cell} {k : Nat} (ss : List Strength) (hn : 2 ≤ cells.length)
    (hk : k < cells.length) :
    ∃ x ∈ cells, ∃ y ∈ cells, (x.centre : Int) ≤ centreAt cells k + offsetOf cells ss cells.length k
      ∧ centreAt cells k + offsetOf cells ss cells.length k ≤ y.centre := by
  obtain ⟨x, hx, hxc⟩ := exists_centre_eq hk
  unfold offsetOf
  split
  next => exact ⟨x, hx, x, hx, by omega, by omega⟩
  next j hj =>
    obtain ⟨y, hy, hyc⟩ := exists_centre_eq (neighbour_lt hn hk hj)
    have hshare := tdiv_share_mem_uIcc ((centreAt cells j : Int) - centreAt cells k) (strengthAt ss k)
      (strengthAt ss j)
    rw [Nat.cast_add]
    rcases Set.mem_uIcc.mp hshare with ⟨hlow, hhigh⟩ | ⟨hlow, hhigh⟩
    · exact ⟨x, hx, y, hy, by omega, by omega⟩
    · exact ⟨y, hy, x, hx, by omega, by omega⟩

/-! ### The judgement (R44 to R47) -/

section

variable {cells : List Cell} {floor a k : Nat} {ss : List Strength}

theorem judge_weak (hk : strongest ss cells.length = k) (h : strengthAt ss k < floor) :
    judge cells floor a ss = .weak := by
  simp [judge, hk, h]

theorem judge_ghost (hk : strongest ss cells.length = k) (h : floor ≤ strengthAt ss k)
    (hghost : isGhost ss cells.length k = true) : judge cells floor a ss = .ghost := by
  simp [judge, hk, h, hghost]

theorem judge_position (hk : strongest ss cells.length = k) (h : floor ≤ strengthAt ss k)
    (hghost : isGhost ss cells.length k = false) :
    judge cells floor a ss =
      if 250000 < (centreAt cells k + offsetOf cells ss cells.length k).toNat + a then .range
      else .valid ((centreAt cells k + offsetOf cells ss cells.length k).toNat + a) := by
  simp [judge, hk, h, hghost]

end

/-- Settles O45. The stages are those of the definition; the position, lying between two centres, is not negative,
so that it is the model's front less a. -/
theorem samplesAreJudgedByTheRules : Obligations.SamplesAreJudgedByTheRules := by
  intro cells floor a k ss at' centre hn _ hk hat hcentre hmax hfirst
  obtain rfl : at' = strengthAt ss := funext hat
  have hcentre' {i : Nat} (hi : i < cells.length) : centre i = centreAt cells i := by
    simp [centreAt, hi, hcentre i cells[i]]
  have hstrong : strongest ss cells.length = k := strongest_eq hk hmax hfirst
  refine ⟨judge_weak hstrong, fun hfloor => ⟨fun hghost => judge_ghost hstrong hfloor (isGhost_iff.mpr hghost),
    fun hclear p hp => ?_⟩⟩
  have hghost : isGhost ss cells.length k = false := by
    rw [Bool.eq_false_iff]
    intro h
    obtain ⟨i, hi, hne, hbelow, habove, hlt⟩ := isGhost_iff.mp h
    exact absurd hlt (Nat.not_lt.mpr (hclear i hi hne hbelow habove))
  have hpos : p = centreAt cells k + offsetOf cells ss cells.length k := by
    rw [hcentre' hk] at hp
    rcases hp with ⟨hlow, hhigh, hequal, rfl⟩ | ⟨j, hj, rfl⟩
    · simp [offsetOf, neighbour_of_equal hlow hhigh hequal]
    · have hneighbour := neighbour_of_isNeighbour hn hj
      rw [hcentre' (neighbour_lt hn hk hneighbour)]
      simp [offsetOf, hneighbour]
  obtain ⟨x, hx, y, hy, hlow, hhigh⟩ := position_between ss hn hk
  rw [judge_position hstrong hfloor hghost, ← hpos]
  rw [← hpos] at hlow hhigh
  refine ⟨fun hrange => if_pos (by omega), fun hin => ⟨p.toNat + a, if_neg (by omega), by omega, ?_⟩⟩
  exact ⟨x, hx, y, hy, by omega, by omega⟩

end Sys2Proof.Machine
end

section
/-!
SUPPORT. The results of a measurement (R48 to R57): the run and its mean, the verdict, the class of a bay against a
door, the best class over a list, and the sets and door lists formed from the classes.
-/

namespace Sys2Proof.Machine

/-! ### The run (R48, R49) -/

/-- The spread is within a limit where every two entries are. -/
theorem spread_le_iff {run : List Nat} {b : Nat} : spread run ≤ b ↔ ∀ y ∈ run, ∀ z ∈ run, y ≤ z + b := by
  cases run with
  | nil => simp [spread]
  | cons x xs =>
    calc spread (x :: xs) ≤ b
        ↔ xs.foldl max x ≤ b + xs.foldl min x := Nat.sub_le_iff_le_add
      _ ↔ ∀ y ∈ x :: xs, y ≤ b + xs.foldl min x := List.max?_le_iff List.max?_cons'
      _ ↔ ∀ y ∈ x :: xs, y - b ≤ xs.foldl min x := by simp only [Nat.sub_le_iff_le_add']
      _ ↔ ∀ y ∈ x :: xs, ∀ z ∈ x :: xs, y - b ≤ z :=
          forall₂_congr fun _ _ => List.le_min?_iff List.min?_cons'
      _ ↔ ∀ y ∈ x :: xs, ∀ z ∈ x :: xs, y ≤ z + b := by simp only [Nat.sub_le_iff_le_add]

theorem runAfter_valid (run : List Nat) (x : Nat) :
    runAfter run (.valid x) =
      if ∀ y ∈ run ++ [x], ∀ z ∈ run ++ [x], y ≤ z + 60 then run ++ [x] else [x] :=
  if_congr spread_le_iff rfl rfl

/-- The mean of four entries, rounded down, is as near to each of them as they are to one another. -/
theorem mean_near {run : List Nat} {b : Nat} (h4 : run.length = 4) (h : ∀ y ∈ run, ∀ z ∈ run, y ≤ z + b) :
    ∀ y ∈ run, y ≤ run.sum / 4 + b ∧ run.sum / 4 ≤ y + b := by
  intro y hy
  have hlow : run.length • (y - b) ≤ run.sum :=
    List.card_nsmul_le_sum run _ fun z hz => Nat.sub_le_iff_le_add.mpr (h y hy z hz)
  have hhigh : run.sum ≤ run.length • (y + b) := List.sum_le_card_nsmul run _ fun z hz => h z hz y hy
  rw [h4, smul_eq_mul] at hlow hhigh
  omega

/-! ### The verdict and the class against a door (R51 to R53) -/

/-- The verdict of F − T, for each of the three that a stopping error can have. -/
theorem verdictOf_iff (front mark tol : Nat) :
    (verdictOf ((front : Int) - mark) tol = .onMark ↔ mark ≤ front + tol ∧ front ≤ mark + tol)
      ∧ (verdictOf ((front : Int) - mark) tol = .short ↔ front + tol < mark)
      ∧ (verdictOf ((front : Int) - mark) tol = .over ↔ mark + tol < front) := by
  unfold verdictOf
  split_ifs <;> simp <;> omega

section

variable {pMin front : Nat} {g : BayGeometry} {d : Door}

theorem classAgainst_eq_full :
    classAgainst pMin front g d = .full ↔
      d.offset ≤ front ∧ (g.left : Int) ≤ (front : Int) - d.offset - d.width
        ∧ (front : Int) - d.offset ≤ g.right := by
  simp only [classAgainst]
  split_ifs with hoff hfull <;> simp <;> omega

theorem classAgainst_eq_part :
    classAgainst pMin front g d = .part ↔
      classAgainst pMin front g d ≠ .full ∧ d.offset ≤ front
        ∧ (pMin : Int) ≤ min (g.right : Int) ((front : Int) - d.offset)
          - max (g.left : Int) ((front : Int) - d.offset - d.width) := by
  simp only [classAgainst]
  split_ifs with hoff hfull <;> simp <;> omega

end

/-! ### The best class over a list (R54) -/

/-- A result is the best class over a list of classes with their numbers: none is better, and where it is not NONE
it stands with its number before every other entry of its class. -/
structure IsBest (xs : List (Cls × Nat)) (best : Cls × Option Nat) : Prop where
  least : ∀ x ∈ xs, best.1.number ≤ x.1.number
  unmet : best.1 = .unmet → best.2 = none
  met : best.1 ≠ .unmet → ∃ (k n : Nat), xs[k]? = some (best.1, n) ∧ best.2 = some n
    ∧ ∀ (j : Nat) (x : Cls × Nat), j < k → xs[j]? = some x → x.1 ≠ best.1

theorem number_le_unmet (c : Cls) : c.number ≤ Cls.unmet.number := by
  cases c <;> decide

/-- One more entry: it replaces the best so far only where it is strictly better, so that the first keeps its place. -/
theorem IsBest.concat {xs : List (Cls × Nat)} {best : Cls × Option Nat} (h : IsBest xs best) (x : Cls × Nat) :
    IsBest (xs ++ [x]) (better best (x.1, some x.2)) := by
  unfold better
  split
  next hlt =>
    refine ⟨?_, ?_, fun _ => ⟨xs.length, x.2, by simp, rfl, ?_⟩⟩
    · simp only [List.forall_mem_append, List.forall_mem_singleton]
      exact ⟨fun y hy => hlt.le.trans (h.least y hy), le_rfl⟩
    · intro hx
      rw [hx] at hlt
      exact absurd hlt (number_le_unmet _).not_gt
    · intro j y hj hy heq
      rw [List.getElem?_append_left hj] at hy
      have := h.least y (List.mem_of_getElem? hy)
      rw [heq] at this
      exact absurd hlt this.not_gt
  next hge =>
    refine ⟨?_, h.unmet, fun hbest => ?_⟩
    · simp only [List.forall_mem_append, List.forall_mem_singleton]
      exact ⟨h.least, Nat.not_lt.mp hge⟩
    · obtain ⟨k, n, hk, hn, hbefore⟩ := h.met hbest
      have hlen : k < xs.length := (List.getElem?_eq_some_iff.mp hk).1
      refine ⟨k, n, by rwa [List.getElem?_append_left hlen], hn, fun j y hj hy => hbefore j y hj ?_⟩
      rwa [List.getElem?_append_left (hj.trans hlen)] at hy

theorem bestOf_isBest (xs : List (Cls × Nat)) : IsBest xs (bestOf xs) := by
  induction xs using List.reverseRecOn with
  | nil => exact ⟨nofun, fun _ => rfl, fun h => absurd rfl h⟩
  | append_singleton xs x ih =>
    unfold bestOf
    rw [List.foldl_append]
    exact ih.concat x

/-- The best class in terms of the doors or bays that the list was formed from: NONE and reached nowhere where all
are NONE, and else reached at the first of its class, and PARTIAL only where none is FULL. -/
theorem IsBest.over {α : Type} {ys : List α} {cls : α → Cls} {num : Nat → α → Nat} {xs : List (Cls × Nat)}
    {best : Cls × Option Nat} (h : IsBest xs best) (hxs : ∀ i, xs[i]? = ys[i]?.map fun y => (cls y, num i y)) :
    (best.1 = .unmet → best.2 = none ∧ ∀ y ∈ ys, cls y = .unmet)
      ∧ (best.1 ≠ .unmet → ∃ (k : Nat) (y : α), ys[k]? = some y ∧ best.2 = some (num k y) ∧ cls y = best.1
          ∧ (∀ (j : Nat) (z : α), j < k → ys[j]? = some z → cls z ≠ best.1)
          ∧ (best.1 = .part → ∀ z ∈ ys, cls z ≠ .full)) := by
  have entry {i : Nat} {y : α} (hy : ys[i]? = some y) : xs[i]? = some (cls y, num i y) := by simp [hxs, hy]
  have least : ∀ y ∈ ys, best.1.number ≤ (cls y).number := fun y hy =>
    have ⟨_, hi⟩ := List.mem_iff_getElem?.mp hy
    h.least _ (List.mem_of_getElem? (entry hi))
  refine ⟨fun hbest => ⟨h.unmet hbest, fun y hy => ?_⟩, fun hbest => ?_⟩
  · have hle := least y hy
    rw [hbest] at hle
    cases hc : cls y with
    | unmet => rfl
    | full | part =>
      rw [hc] at hle
      exact absurd hle (by decide)
  · obtain ⟨k, n, hk, hn, hbefore⟩ := h.met hbest
    rw [hxs, Option.map_eq_some_iff] at hk
    obtain ⟨y, hy, heq⟩ := hk
    obtain ⟨hcls, rfl⟩ := Prod.mk.inj heq
    refine ⟨k, y, hy, hn, hcls, fun j z hj hz => hbefore j _ hj (entry hz), fun hpart z hz hfull => ?_⟩
    have hle := least z hz
    rw [hpart, hfull] at hle
    exact absurd hle (by decide)

section

variable {pMin front : Nat} {bays : List BayGeometry} {doors : List Door}

/-- The best class of a bay over the doors, which are numbered from 1. -/
theorem bayClassesOf_entry {i : Nat} {c : BayClass} (h : (bayClassesOf pMin front bays doors)[i]? = some c) :
    ∃ g, bays[i]? = some g
      ∧ (c.cls = .unmet → c.door = none ∧ ∀ d ∈ doors, classAgainst pMin front g d = .unmet)
      ∧ (c.cls ≠ .unmet → ∃ (k : Nat) (d : Door), c.door = some (k + 1) ∧ doors[k]? = some d
          ∧ classAgainst pMin front g d = c.cls
          ∧ (∀ (j : Nat) (e : Door), j < k → doors[j]? = some e → classAgainst pMin front g e ≠ c.cls)
          ∧ (c.cls = .part → ∀ e ∈ doors, classAgainst pMin front g e ≠ .full)) := by
  rw [bayClassesOf, List.getElem?_map, Option.map_eq_some_iff] at h
  obtain ⟨g, hg, rfl⟩ := h
  obtain ⟨hunmet, hmet⟩ := (bestOf_isBest ((numbered doors).map fun d => (classAgainst pMin front g d.1, d.2))).over
    (ys := doors) (cls := classAgainst pMin front g) (num := fun k _ => k + 1)
    (by simp [numbered, List.getElem?_zipIdx, Function.comp_def, Nat.add_comm])
  refine ⟨g, hg, hunmet, fun hc => ?_⟩
  obtain ⟨k, d, hd, hdoor, hrest⟩ := hmet hc
  exact ⟨k, d, hdoor, hd, hrest⟩

/-- The best class of a door over the bays of the face. -/
theorem doorClassesOf_entry {i : Nat} {c : DoorClass} (h : (doorClassesOf pMin front bays doors)[i]? = some c) :
    ∃ d, doors[i]? = some d
      ∧ (c.cls = .unmet → c.bay = none ∧ ∀ g ∈ bays, classAgainst pMin front g d = .unmet)
      ∧ (c.cls ≠ .unmet → ∃ (k : Nat) (g : BayGeometry), bays[k]? = some g ∧ c.bay = some g.num
          ∧ classAgainst pMin front g d = c.cls
          ∧ (∀ (j : Nat) (e : BayGeometry), j < k → bays[j]? = some e → classAgainst pMin front e d ≠ c.cls)
          ∧ (c.cls = .part → ∀ e ∈ bays, classAgainst pMin front e d ≠ .full)) := by
  rw [doorClassesOf, List.getElem?_map, Option.map_eq_some_iff] at h
  obtain ⟨d, hd, rfl⟩ := h
  exact ⟨d, hd, (bestOf_isBest (bays.map fun g => (classAgainst pMin front g d, g.num))).over
    (cls := fun g => classAgainst pMin front g d) (num := fun _ g => g.num) fun _ => List.getElem?_map⟩

/-! ### The sets and the door lists (R55 to R57) -/

theorem mem_doorsMetBy {set : List Nat} {n : Nat} :
    n ∈ doorsMetBy pMin front bays doors set ↔
      ∃ (k : Nat) (d : Door) (g : BayGeometry), n = k + 1 ∧ doors[k]? = some d ∧ g ∈ bays ∧ g.num ∈ set
        ∧ classAgainst pMin front g d ≠ .unmet := by
  simp only [doorsMetBy, numbered, List.mem_map, List.mem_filter, List.any_eq_true, Bool.and_eq_true,
    List.contains_iff_mem, bne_iff_ne, List.mem_zipIdx_iff_le_and_getElem?_sub]
  constructor
  · rintro ⟨⟨d, m⟩, ⟨⟨hpos, hd⟩, g, hg, hset, hcls⟩, rfl⟩
    exact ⟨m - 1, d, g, (Nat.sub_add_cancel hpos).symm, hd, hg, hset, hcls⟩
  · rintro ⟨k, d, g, rfl, hd, hg, hset, hcls⟩
    exact ⟨(d, k + 1), ⟨⟨Nat.le_add_left 1 k, hd⟩, g, hg, hset, hcls⟩, rfl⟩

/-- The doors are numbered in ascending order, and a selection of them keeps it. -/
theorem doorsMetBy_ascending {set : List Nat} : (doorsMetBy pMin front bays doors set).Pairwise (· < ·) := by
  have hnumbers : ((numbered doors).map (·.2)).Pairwise (· < ·) := by
    rw [numbered, List.zipIdx_map_snd]
    exact List.pairwise_lt_range' 1
  exact hnumbers.sublist (List.filter_sublist.map _)

end

theorem mem_grantSet {v : Verdict} {allowance : Bool} {isolated : Nat → Bool} {cs : List BayClass} {n : Nat} :
    n ∈ grantSet v allowance isolated cs ↔
      v = .onMark ∧ isolated n = false
        ∧ ∃ c ∈ cs, c.bay = n ∧ (c.cls = .full ∨ allowance = true ∧ c.cls = .part) := by
  unfold grantSet
  split
  next hv =>
    simp only [hv, true_and, List.mem_map, List.mem_filter, Bool.and_eq_true, Bool.or_eq_true, Bool.not_eq_true',
      beq_iff_eq]
    constructor
    · rintro ⟨c, ⟨hc, hiso, hcls⟩, rfl⟩
      exact ⟨hiso, c, hc, rfl, hcls⟩
    · rintro ⟨hiso, c, hc, rfl, hcls⟩
      exact ⟨c, ⟨hc, hiso, hcls⟩, rfl⟩
  next hv => simp [hv]

theorem mem_evacuationSet {isolated : Nat → Bool} {cs : List BayClass} {n : Nat} :
    n ∈ evacuationSet isolated cs ↔ isolated n = false ∧ ∃ c ∈ cs, c.bay = n ∧ c.cls ≠ .unmet := by
  simp only [evacuationSet, List.mem_map, List.mem_filter, Bool.and_eq_true, Bool.not_eq_true', bne_iff_ne]
  constructor
  · rintro ⟨c, ⟨hc, hiso, hcls⟩, rfl⟩
    exact ⟨hiso, c, hc, rfl, hcls⟩
  · rintro ⟨hiso, c, hc, rfl, hcls⟩
    exact ⟨c, ⟨hc, hiso, hcls⟩, rfl⟩

/-! ### The obligation -/

/-- Settles O46. Each field that a measurement with F writes is the value of one of the functions above, and has
the properties of that function. -/
theorem classesAndSetsFollowTheRules : Obligations.ClassesAndSetsFollowTheRules := by
  refine ⟨fun run x => ⟨rfl, rfl, rfl, fun h => ?_, fun h => ?_, mean_near⟩, ?_⟩
  · rw [runAfter_valid, if_pos h]
  · rw [runAfter_valid, if_neg h]
  rintro cfg doors isolated front mark tol m r hmark htol rfl cls rfl
  have herror : (withFront cfg doors isolated front m).error = some ((front : Int) - mark) := by
    simp [withFront, hmark]
  have hverdict : (withFront cfg doors isolated front m).verdict
      = some (verdictOf ((front : Int) - mark) tol) := by
    simp [withFront, hmark, htol]
  have hgrant : (withFront cfg doors isolated front m).grant
      = grantSet (verdictOf ((front : Int) - mark) tol) (cfg.params.partAllowance == 1) isolated
          (bayClassesOf cfg.params.minimumOverlap front cfg.bays doors) := by
    simp [withFront, hmark, htol]
  obtain ⟨honMark, hshort, hover⟩ := verdictOf_iff front mark tol
  rw [hverdict]
  simp only [Option.some_inj]
  refine ⟨fun g d => ⟨classAgainst_eq_full, classAgainst_eq_part⟩, rfl, herror, honMark, hshort, hover,
    ⟨_, _, rfl, rfl, by simp [bayClassesOf], by simp [doorClassesOf], fun _ _ => bayClassesOf_entry,
      fun _ _ => doorClassesOf_entry, fun n => ⟨?_, mem_evacuationSet, mem_doorsMetBy, mem_doorsMetBy⟩⟩,
    doorsMetBy_ascending, doorsMetBy_ascending⟩
  rw [hgrant, mem_grantSet]
  simp only [beq_iff_eq]

end Sys2Proof.Machine
end

section
/-!
SUPPORT. PERMIT_CHANGED is posted at the end of an event alone (R154): what the work at a face leaves of the
records of PERMIT_CHANGED and of a face out of service, said once for each operation, in the order of the model.
-/

-- One proof after another: side by side their threads' stacks fill the checker's memory.
set_option Elab.async false

namespace Sys2Proof.Machine

open Sys2Proof.Safety

/-! ### The two frames -/

/-- The PERMIT_CHANGED records that stand in the Event Queue. -/
def State.permitRecords (s : State) : List EventRecord := s.events.filter fun x => x.kind == .permitChanged

/-- A face out of service, with no closing procedure and no substate. -/
structure Idle (f : Face) (s : State) : Prop where
  out : s.stateOf f = .outOfService
  closing : (s.face f).seq.closingKind = none
  substate : (s.face f).seq.substate = none

/-- Work at face `f` that posts no PERMIT_CHANGED and puts the face out of service by no path. -/
structure Plain (f : Face) (s t : State) : Prop where
  records : t.permitRecords = s.permitRecords
  service : s.stateOf f ≠ .outOfService → t.stateOf f ≠ .outOfService

/-- Work that besides leaves an idle face idle. -/
structure Restful (f : Face) (s t : State) : Prop extends Plain f s t where
  rest : Idle f s → Idle f t

theorem Plain.then {f : Face} {s t u : State} (h : Plain f s t) (k : Plain f t u) : Plain f s u :=
  ⟨k.records.trans h.records, fun x => k.service (h.service x)⟩

theorem Restful.then {f : Face} {s t u : State} (h : Restful f s t) (k : Restful f t u) : Restful f s u :=
  ⟨h.toPlain.then k.toPlain, fun x => k.rest (h.rest x)⟩

/-- What work does to an idle face does not matter where the face is not idle. -/
theorem Plain.restful {f : Face} {s t : State} (h : Plain f s t) (k : ¬Idle f s) : Restful f s t :=
  ⟨h, fun x => absurd x k⟩

theorem not_idle_of_state {f : Face} {s : State} {st : FaceState} (h : s.stateOf f = st)
    (k : st ≠ .outOfService := by decide) : ¬Idle f s := fun x => k (h.symm.trans x.out)

theorem not_idle_of_service {f : Face} {s : State} (h : s.stateOf f ≠ .outOfService) : ¬Idle f s := fun x => h x.out

theorem not_idle_of_substate {f : Face} {s : State} {x : OpenSub} (h : (s.face f).seq.substate = some x) :
    ¬Idle f s := fun i => by rw [i.substate] at h; cases h

theorem not_idle_of_closing {f : Face} {s : State} {k : ClosingKind} (h : (s.face f).seq.closingKind = some k) :
    ¬Idle f s := fun i => by rw [i.closing] at h; cases h

theorem restful_refl (f : Face) (s : State) : Restful f s s := ⟨⟨rfl, id⟩, id⟩

theorem plain_ite {f : Face} {s a b : State} {c : Prop} [Decidable c] (h : Plain f s a) (k : Plain f s b) :
    Plain f s (if c then a else b) := by
  split <;> assumption

/-- Work in two cases, where each case may know that it is the case. -/
theorem restful_ite {f : Face} {s a b : State} {c : Prop} [Decidable c] (h : c → Restful f s a)
    (k : ¬c → Restful f s b) : Restful f s (if c then a else b) := by
  split
  · exact h ‹_›
  · exact k ‹_›

/-- Work that one case does. -/
theorem restful_when {f : Face} {s a : State} {c : Prop} [Decidable c] (h : c → Restful f s a) :
    Restful f s (if c then a else s) :=
  restful_ite h fun _ => restful_refl f s

theorem restful_foldl {α : Type} {f : Face} {g : State → α → State} (h : ∀ s x, Restful f s (g s x))
    (xs : List α) (s : State) : Restful f s (xs.foldl g s) := by
  induction xs generalizing s with
  | nil => exact restful_refl f s
  | cons x xs ih => exact (h s x).then (ih _)

/-! ### Updates -/

/-- An update that posts nothing and keeps the state, the closing kind and the substate of the face. -/
theorem restful_of {f : Face} {s t : State} (e : t.events = s.events)
    (st : (t.face f).seq.state = (s.face f).seq.state) (ck : (t.face f).seq.closingKind = (s.face f).seq.closingKind)
    (sub : (t.face f).seq.substate = (s.face f).seq.substate) : Restful f s t where
  records := by rw [State.permitRecords, e]; rfl
  service := fun h x => h (st.symm.trans x)
  rest := fun h => ⟨st.trans h.out, ck.trans h.closing, sub.trans h.substate⟩

theorem restful_modBerth (f : Face) (g : Berth → Berth) (s : State) : Restful f s (modBerth f g s) :=
  restful_of rfl (by simp) (by simp) (by simp)

theorem restful_modBus (f : Face) (g : Bus → Bus) (s : State) : Restful f s (modBus f g s) :=
  restful_of rfl (by simp) (by simp) (by simp)

theorem restful_modSensing (f : Face) (g : Sensing → Sensing) (s : State) : Restful f s (modSensing f g s) :=
  restful_of rfl (by simp) (by simp) (by simp)

theorem restful_modRelease (f : Face) (g : Release → Release) (s : State) : Restful f s (modRelease f g s) :=
  restful_of rfl (by simp) (by simp) (by simp)

theorem restful_modFault (f : Face) (g : FaultUnit → FaultUnit) (s : State) : Restful f s (modFault f g s) :=
  restful_of rfl (by simp) (by simp) (by simp)

theorem restful_modBay (f : Face) (n : Nat) (g : BayEntry → BayEntry) (s : State) : Restful f s (modBay f n g s) :=
  restful_of rfl (by simp) (by simp) (by simp)

theorem restful_modBays (f : Face) (g : BayEntry → BayEntry) (s : State) : Restful f s (modBays f g s) :=
  restful_of rfl (by simp) (by simp) (by simp)

/-- Either face's Measurement Record may be written. -/
theorem restful_modMeas (f h : Face) (g : Measurement → Measurement) (s : State) : Restful f s (modMeas h g s) := by
  have k : ((modMeas h g s).face f).seq = (s.face f).seq := by cases f <;> cases h <;> rfl
  exact restful_of rfl (by rw [k]) (by rw [k]) (by rw [k])

theorem restful_unit (f : Face) (s : State) (x y : Option Face) :
    Restful f s { s with serving := x, waitingFor := y } :=
  restful_of rfl rfl rfl rfl

/-- The Face Record may be written in all but its state. -/
theorem plain_modSeq (f : Face) (g : FaceRecord → FaceRecord) (s : State)
    (h : (g (s.face f).seq).state = (s.face f).seq.state := by rfl) : Plain f s (modSeq f g s) where
  records := rfl
  service := fun k => by rwa [State.stateOf_eq, modSeq_face, h]

theorem restful_modSeq (f : Face) (g : FaceRecord → FaceRecord) (s : State)
    (h : (g (s.face f).seq).state = (s.face f).seq.state := by rfl)
    (ck : (g (s.face f).seq).closingKind = (s.face f).seq.closingKind := by rfl)
    (sub : (g (s.face f).seq).substate = (s.face f).seq.substate := by rfl) : Restful f s (modSeq f g s) :=
  restful_of rfl (by rwa [modSeq_face]) (by rwa [modSeq_face]) (by rwa [modSeq_face])

theorem restful_post (f : Face) (k : EventKind) (x : Option Face) (n : Option Nat) (ds : List Nat) (s : State)
    (h : k ≠ .permitChanged := by decide) : Restful f s (post k x n ds s) where
  records := by
    unfold post State.permitRecords
    split
    · simp [h]
    · rfl
  service := by simp
  rest := fun i => ⟨by simpa using i.out, by simpa using i.closing, by simpa using i.substate⟩

/-! ### Ops.lean and Flags.lean -/

theorem restful_clearClasses (f : Face) (s : State) : Restful f s (clearClasses f s) := restful_modBays f _ s

theorem restful_makeStale (f : Face) (s : State) : Restful f s (makeStale f s) := by
  have h := (restful_modMeas f f (fun m => { m with status := .stale }) s).then (restful_clearClasses f _)
  exact restful_when fun _ => restful_ite (fun _ => h.then (restful_modBerth f _ _)) fun _ => h

/-- Every state that a face enters but by a load is one in service. -/
theorem plain_setState (f : Face) (st : FaceState) (s : State) (h : st ≠ .outOfService := by decide) :
    Plain f s (setState f st s) where
  records := rfl
  service := fun _ => by rwa [setState_stateOf]

theorem restful_setFlag (f : Face) (fl : Flag) (n : Option Nat) (s : State) : Restful f s (setFlag f fl n s) := by
  unfold setFlag
  split
  · exact restful_refl f s
  · exact (restful_modFault f _ s).then (restful_post f _ _ _ _ _)

theorem restful_capture (f : Face) (m : Bool) (c : Flag → Bool) (s : State) : Restful f s (capture f m c s) := by
  unfold capture
  split
  · exact restful_refl f s
  · exact restful_of rfl (by simp) (by simp) (by simp)

/-! ### Bus.lean -/

theorem restful_place (f : Face) (x : DispatchEntry) (s : State) : Restful f s (place f x s) := restful_modBus f _ s

theorem restful_issue (f : Face) (n : Nat) (o : BayOrder) (s : State) : Restful f s (issue f n o s) :=
  have h := issued_issue f n o s
  restful_of h.events (by rw [h.seq]) (by rw [h.seq]) (by rw [h.seq])

theorem restful_issueAll (f : Face) (o : BayOrder) (ns : List Nat) (s : State) : Restful f s (issueAll f o ns s) :=
  restful_foldl (fun s n => restful_issue f n o s) ns s

theorem restful_groupWarn (f : Face) (on : Bool) (s : State) : Restful f s (groupWarn f on s) :=
  (restful_place f _ s).then (restful_modSeq f _ _)

theorem restful_cutWarning (f : Face) (s : State) : Restful f s (cutWarning f s) :=
  restful_when fun _ => restful_groupWarn f false s

theorem restful_groupClose (f : Face) (s : State) : Restful f s (groupClose f s) :=
  ((restful_modBays f _ s).then (restful_modBus f _ _)).then (restful_place f _ _)

theorem restful_dropCloses (f : Face) (s : State) : Restful f s (dropCloses f s) := by
  unfold dropCloses
  dsimp only
  exact (restful_modBays f _ s).then (restful_modBus f _ _)

theorem restful_moveUp (f : Face) (n : Nat) (s : State) : Restful f s (moveUp f n s) := by
  unfold moveUp
  split
  · exact restful_refl f s
  · exact (restful_modBay f n _ s).then (restful_place f _ _)

theorem restful_placeFollowUp (f : Face) (n : Nat) (s : State) : Restful f s (placeFollowUp f n s) :=
  restful_ite (fun _ => restful_refl f s) fun _ => restful_place f _ s

theorem restful_start (f : Face) (k : TransKind) (r : Bool) (s : State) : Restful f s (start f k r s) := by
  unfold start send
  dsimp only
  exact (restful_modBus f _ s).then (restful_modBus f _ _)

theorem restful_ownTransaction (f : Face) (s : State) : Restful f s (ownTransaction f s) := by
  unfold ownTransaction
  dsimp only
  split
  iterate 3 exact restful_start f _ _ s
  refine restful_ite (fun _ => (restful_modBus f _ s).then (restful_start f _ _ _)) fun _ => ?_
  split
  · exact restful_refl f s
  · exact restful_start f _ _ s

theorem restful_serveGap (f : Face) (xs : List DispatchEntry) (s : State) : Restful f s (serveGap f xs s) := by
  cases xs with
  | nil => exact (restful_modBus f _ s).then (restful_ownTransaction f _)
  | cons x xs => exact (restful_modBus f _ s).then (restful_start f _ _ _)

theorem restful_busContinue (f : Face) (s : State) : Restful f s (busContinue f s) :=
  restful_ite (fun _ => restful_serveGap f _ s) fun _ => restful_modBus f _ s

theorem restful_beginTurn (f : Face) (s : State) : Restful f s (beginTurn f s) :=
  restful_ite (fun _ => restful_refl f s) fun _ => (restful_modBus f _ s).then (restful_serveGap f _ _)

/-! ### Berth.lean -/

theorem restful_select (f : Face) (code : Nat) (train : BitVec 16) (s : State) :
    Restful f s (select f code train s) :=
  restful_modBerth f _ s

theorem restful_postMismatch (f : Face) (code : Nat) (train : BitVec 16) (s : State) :
    Restful f s (postMismatch f code train s) := by
  unfold postMismatch
  split
  · exact restful_refl f s
  · exact restful_when fun _ => restful_post f _ _ _ _ s

/-! ### Sequencer.lean -/

theorem restful_turnUnit (f : Face) (s : State) : Restful f s (turnUnit s) := by
  unfold turnUnit
  split
  · exact restful_unit f s _ _
  · exact (restful_unit f s _ _).then (restful_modMeas f _ _ _)

theorem restful_abandon (f : Face) (c : AbandonCause) (s : State) : Restful f s (abandon f c s) := by
  have h := restful_modMeas f f
    (fun m => { m with status := .abandoned, completion := some s.time, abandon := some c }) s
  exact restful_when fun _ => restful_ite (fun _ => h.then (restful_turnUnit f _)) fun _ =>
    restful_ite (fun _ => h.then (restful_unit f _ _ _)) fun _ => h

theorem restful_lapse (f : Face) (s : State) : Restful f s (lapse f s) := by
  unfold lapse
  split
  · exact restful_refl f s
  · exact (restful_modSeq f _ s).then (restful_post f _ _ _ _ _)

/-- A procedure's end leaves none that runs. -/
theorem restful_endProcedure (f : Face) (s : State) : Restful f s (endProcedure f s) where
  toPlain := plain_modSeq f _ s
  rest := fun i => ⟨by simpa using i.out, by simp [endProcedure], by simpa [endProcedure] using i.substate⟩

theorem restful_clearHold (f : Face) (s : State) : Restful f s (clearHold f s) := restful_modSeq f _ s

theorem restful_stopSequence (f : Face) (c : AbandonCause) (s : State) : Restful f s (stopSequence f c s) :=
  (((((restful_lapse f s).then (restful_clearHold f _)).then (restful_modSeq f _ _)).then
    (restful_endProcedure f _)).then (restful_cutWarning f _)).then (restful_abandon f c _)

theorem plain_enterHeld (f : Face) (s : State) : Plain f s (enterHeld f s) :=
  (restful_stopSequence f _ s).toPlain.then (plain_setState f _ _)

/-- The summary moves no face out of service (R143). -/
theorem restful_summarySet (f : Face) (s : State) : Restful f s (summarySet f s) :=
  restful_when fun h => (plain_enterHeld f s).restful fun i => by rw [i.out] at h; exact absurd h (by decide)

theorem restful_raise (f : Face) (cs : List (Flag × Option Nat)) (s : State) : Restful f s (raise f cs s) := by
  have h := restful_foldl (f := f) (fun s (c : Flag × Option Nat) => restful_setFlag f c.1 c.2 s) cs s
  refine restful_ite (fun _ => restful_refl f s) fun _ => ?_
  exact restful_ite (fun _ => (h.then (restful_capture f _ _ _)).then (restful_summarySet f _)) fun _ => h

theorem restful_raiseGaps (f : Face) (s : State) : Restful f s (raiseGaps f s) := restful_raise f _ s

theorem plain_enterEmpty (f : Face) (s : State) : Plain f s (enterEmpty f s) := by
  have h : Restful f s
      (if s.stateOf f = .arriving ∨ s.stateOf f = .measuring ∨ s.stateOf f = .berthed then lapse f s else s) :=
    restful_when fun _ => restful_lapse f s
  have h := (h.then (restful_abandon f .vacant _)).toPlain.then (plain_setState f .empty _)
  have h := (h.then (restful_modSeq f (fun r => { r with hold := none, grant := [] }) _).toPlain).then
    (restful_makeStale f _).toPlain
  have h := h.then
    (restful_modBerth f (fun b => { b with active := none, consist := none, lossReported := false }) _).toPlain
  exact (plain_ite (h.then (restful_post f _ _ _ _ _).toPlain) h).then (restful_raiseGaps f _).toPlain

theorem plain_enterArriving (f : Face) (s : State) : Plain f s (enterArriving f s) :=
  ((restful_abandon f _ s).toPlain.then (plain_setState f _ _)).then
    (((((restful_modBerth f _ _).then (restful_modSeq f _ _)).then (restful_modBays f _ _)).then
      (restful_modSensing f _ _)).then (restful_makeStale f _)).toPlain

theorem plain_enterSurvey (f : Face) (s : State) : Plain f s (enterSurvey f s) :=
  ((((restful_modBays f _ s).then (restful_endProcedure f _)).then (restful_modBus f _ _)).then
    (restful_modRelease f _ _)).toPlain.then
      ((plain_setState f _ _).then (restful_groupWarn f _ _).toPlain)

/-! ### The closing procedure -/

theorem restful_modEntry (f : Face) (n : Nat) (g : ClosingEntry → ClosingEntry) (s : State) :
    Restful f s (modEntry f n g s) :=
  restful_modSeq f _ s

theorem restful_orderClose (f : Face) (n : Nat) (s : State) : Restful f s (orderClose f n s) :=
  (restful_issue f n _ s).then (restful_modEntry f n _ _)

theorem restful_raised {f : Face} {s : State} {x : Raising} (h : Restful f s x.1) : Restful f s (raised f x) :=
  h.then (restful_raise f _ _)

theorem restful_countRetry (f : Face) (n : Nat) (s : State) : Restful f s (countRetry f n s).1 := by
  have h := restful_modEntry f n (fun e => { e with retries := e.retries + 1 }) s
  unfold countRetry
  dsimp only
  split
  · exact h
  split
  · split
    · exact h.then (restful_post f _ _ _ _ _)
    · exact h
  · exact (h.then (restful_modEntry f n _ _)).then (restful_post f _ _ _ _ _)

theorem restful_gapTrip (f : Face) (n : Nat) (s : State) : Restful f s (gapTrip f n s).1 :=
  have h : Restful f s (if s.tripOpens f n then issue f n .openLeaf s else s) :=
    restful_when fun _ => restful_issue f n _ s
  (h.then (restful_modEntry f n _ _)).then (restful_countRetry f n _)

theorem restful_closeOrTrip (f : Face) (n : Nat) (s : State) : Restful f s (closeOrTrip f n s).1 := by
  unfold closeOrTrip
  split
  · exact restful_gapTrip f n s
  · exact restful_orderClose f n s

theorem plain_enterClosedLocked (f : Face) (s : State) : Plain f s (enterClosedLocked f s) := by
  have h := (((restful_endProcedure f s).toPlain.then (plain_setState f .closedLocked _)).then
    (restful_post f .closedLocked (some f) none
      [highestRetry ((setState f .closedLocked (endProcedure f s)).face f).seq.closing] _).toPlain).then
    (restful_raiseGaps f _).toPlain
  exact plain_ite (h.then (plain_enterEmpty f _)) h

/-- A procedure ends where one runs, and none runs at an idle face. -/
theorem restful_finishClosing (f : Face) (s : State) : Restful f s (finishClosing f s) := by
  refine restful_when fun _ => ?_
  split
  case h_1 => exact restful_refl f s
  case h_2 => exact restful_endProcedure f s
  case h_3 h => exact (plain_enterSurvey f s).restful (not_idle_of_closing h)
  case h_4 h => exact (plain_enterClosedLocked f s).restful (not_idle_of_closing h)

theorem plain_startWarned (f : Face) (k : ClosingKind) (s : State) : Plain f s (startWarned f k s) :=
  (plain_modSeq f _ s).then (restful_groupWarn f true _).toPlain

theorem plain_startAtOnce (f : Face) (k : ClosingKind) (s : State) : Plain f s (startAtOnce f k s) :=
  plain_modSeq f _ s

theorem plain_enterClosing (f : Face) (d : Nat) (s : State) : Plain f s (enterClosing f d s) :=
  ((restful_clearHold f s).toPlain.then (plain_setState f _ _)).then
    (((restful_post f _ _ _ _ _).toPlain.then (plain_startWarned f _ _)).then (restful_finishClosing f _).toPlain)

theorem plain_startHeldClose (f : Face) (s : State) : Plain f s (startHeldClose f s) :=
  (plain_startAtOnce f _ s).then ((restful_issueAll f _ _ _).then (restful_finishClosing f _)).toPlain

theorem plain_startRecovery (f : Face) (s : State) : Plain f s (startRecovery f s) :=
  ((restful_endProcedure f s).toPlain.then (plain_startWarned f _ _)).then (restful_finishClosing f _).toPlain

theorem plain_trainMovement (f : Face) (s : State) : Plain f s (trainMovement f s) := by
  have h := ((((restful_post f .trainMoved (some f) none [(s.stateOf f).number] s).then
    (restful_clearHold f _)).then (restful_endProcedure f _)).then
    (restful_modSeq f (fun r => { r with openTravel := none }) _)).toPlain.then (plain_setState f .closing _)
  exact ((h.then ((restful_cutWarning f _).then (restful_groupClose f _)).toPlain).then
    (plain_startAtOnce f _ _)).then ((restful_raise f _ _).then (restful_finishClosing f _)).toPlain

/-- VACANT moves no face out of service. -/
theorem restful_giveVacant (f : Face) (s : State) : Restful f s (giveVacant f s) := by
  unfold giveVacant
  split
  case h_7 => exact restful_refl f s
  case h_5 h | h_6 h =>
    exact ((restful_makeStale f s).toPlain.then (plain_trainMovement f _)).restful (not_idle_of_state h)
  case h_1 h | h_2 h | h_3 h | h_4 h => exact (plain_enterEmpty f s).restful (not_idle_of_state h)

theorem restful_vacantAgain (f : Face) (s : State) : Restful f s (vacantAgain f s) :=
  restful_when fun _ => restful_giveVacant f s

/-! ### Opening, measuring and SURVEY -/

theorem plain_enterOpen (f : Face) (s : State) : Plain f s (enterOpen f s) :=
  ((plain_setState f _ s).then (plain_modSeq f _ _)).then
    ((restful_post f _ _ _ _ _).then (restful_vacantAgain f _)).toPlain

theorem restful_checkOpened (f : Face) (s : State) : Restful f s (checkOpened f s) :=
  restful_when fun h => (plain_enterOpen f s).restful (not_idle_of_state h.1)

theorem plain_enterOpening (f : Face) (id : Byte) (s : State) : Plain f s (enterOpening f id s) :=
  (plain_setState f _ s).then
    (((((((restful_modSeq f _ _).then (restful_post f _ _ _ _ _)).then (restful_modBerth f _ _)).then
      (restful_issueAll f _ _ _)).then (restful_modSeq f _ _)).then (restful_vacantAgain f _)).then
      (restful_checkOpened f _)).toPlain

theorem mayOpen_berthed {f : Face} {s : State} (h : s.mayOpen f = true) : s.stateOf f = .berthed :=
  ((mayOpen_iff f s).mp h).1

theorem restful_acceptanceTest (f : Face) (s : State) : Restful f s (acceptanceTest f s) := by
  unfold acceptanceTest
  split
  · exact restful_refl f s
  · exact restful_when fun h => (plain_enterOpening f _ s).restful (not_idle_of_state (mayOpen_berthed h))

theorem plain_enterBerthed (f : Face) (v : Verdict) (s : State) : Plain f s (enterBerthed f v s) := by
  have h : ∀ x, Plain f s (post .berthed (some f) none x (setState f .berthed s)) := fun x =>
    (plain_setState f .berthed s).then (restful_post f _ _ _ _ _).toPlain
  exact (plain_ite (h _) ((h _).then (restful_raise f _ _).toPlain)).then
    ((restful_acceptanceTest f _).then (restful_vacantAgain f _)).toPlain

theorem plain_complete (f : Face) (v : Verdict) (m : Measurement) (s : State) : Plain f s (complete f v m s) := by
  unfold complete
  dsimp only
  have h := ((restful_modMeas f f (fun _ => { m with verdict := some v, status := .current, completion := some s.time })
    s).then (restful_modBays f (fun e => { e with cls := m.classOf e.num, granted := m.grant.contains e.num }) _)).then
    (restful_modSeq f (fun r => { r with grant := m.grant }) _)
  have h := h.toPlain.then (plain_enterBerthed f v _)
  exact plain_ite (h.then (restful_turnUnit f _).toPlain) h

theorem restful_requestUnit (f : Face) (s : State) : Restful f s (requestUnit f s) := by
  unfold requestUnit
  split
  · exact restful_ite (fun _ => restful_modMeas f f _ s) fun _ => restful_unit f s _ _
  · exact (restful_unit f s _ _).then (restful_modMeas f f _ _)

theorem plain_enterMeasuring (f : Face) (s : State) : Plain f s (enterMeasuring f s) := by
  have h := (plain_setState f .measuring s).then
    ((restful_modMeas f f (fun _ => s.newRecord f) _).then (restful_clearClasses f _)).toPlain
  exact (plain_ite (h.then (plain_complete f _ _ _)) (h.then (restful_requestUnit f _).toPlain)).then
    (restful_vacantAgain f _).toPlain

theorem plain_takeSample (f : Face) (ss : List Strength) (s : State) : Plain f s (takeSample f ss s) :=
  plain_ite (restful_refl f s).toPlain (plain_ite (plain_complete f _ _ s)
    (plain_ite (plain_complete f _ _ s) (restful_modMeas f f _ s).toPlain))

theorem restful_surveyDone (f : Face) (row : Nat) (s : State) : Restful f s (surveyDone f row s) :=
  restful_post f _ _ _ _ s

theorem plain_surveyTrain (f : Face) (s : State) : Plain f s (surveyTrain f s) := by
  unfold surveyTrain
  split
  · refine plain_ite ?_ ?_
    · exact (plain_enterArriving f s).then ((((restful_select f _ _ _).then (restful_postMismatch f _ _ _)).then
        (restful_vacantAgain f _)).then (restful_surveyDone f _ _)).toPlain
    · exact (((restful_select f _ _ s).then (restful_postMismatch f _ _ _)).toPlain.then
        (plain_enterMeasuring f _)).then (restful_surveyDone f _ _).toPlain
  · exact (plain_enterEmpty f s).then (restful_surveyDone f _ _).toPlain

theorem plain_surveyHeld (f : Face) (row : Nat) (s : State) : Plain f s (surveyDone f row (enterHeld f s)) :=
  (plain_enterHeld f s).then (restful_surveyDone f _ _).toPlain

theorem plain_surveySummary (f : Face) (s : State) : Plain f s (surveySummary f s) :=
  plain_ite (plain_surveyHeld f 3 s) (plain_surveyTrain f s)

theorem plain_surveySilent (f : Face) (s : State) : Plain f s (surveySilent f s) :=
  plain_ite (plain_surveySummary f s) (plain_ite ((restful_raise f _ s).toPlain.then (plain_surveySummary f _))
    ((restful_raise f _ s).toPlain.then (plain_surveyHeld f 2 _)))

theorem plain_surveyDecision (f : Face) (s : State) : Plain f s (surveyDecision f s) :=
  plain_ite (plain_surveySilent f s) (plain_ite ((restful_raise f _ s).toPlain.then (plain_surveySilent f _))
    ((restful_raise f _ s).toPlain.then (plain_surveyHeld f 1 _)))

theorem restful_surveyPolled (f : Face) (n : Nat) (s : State) : Restful f s (surveyPolled f n s) :=
  have h := restful_modBay f n (fun e => { e with surveyPolls := e.surveyPolls + 1 }) s
  restful_when fun hs =>
    (plain_ite (h.toPlain.then (plain_surveyDecision f _)) h.toPlain).restful (not_idle_of_state hs)

theorem plain_satisfied (f : Face) (s : State) : Plain f s (satisfied f s) :=
  plain_ite (plain_enterClosing f 1 s) (plain_modSeq f _ s)

theorem plain_trueExpiry (f : Face) (s : State) : Plain f s (trueExpiry f s) :=
  plain_ite (plain_satisfied f s) ((plain_modSeq f _ s).then (restful_post f _ _ _ _ _).toPlain)

theorem plain_dwellExpired (f : Face) (s : State) : Plain f s (dwellExpired f s) :=
  plain_ite ((restful_modSeq f _ s).then (restful_post f _ _ _ _ _)).toPlain (plain_trueExpiry f s)

/-! ### Release.lean -/

theorem restful_evacuate (f : Face) (front : Nat) (s : State) : Restful f s (evacuate f front s) := by
  unfold evacuate
  dsimp only
  exact ((restful_issueAll f _ _ s).then (restful_modBerth f _ _)).then (restful_modRelease f _ _)

theorem restful_openingPlan (f : Face) (cs : List (Cause × Option Nat)) (s : State) :
    Restful f s (openingPlan f cs s) := by
  unfold openingPlan
  split
  · exact restful_refl f s
  · exact restful_when fun _ => restful_evacuate f _ s

theorem plain_enterReleased (f : Face) (cs : List (Cause × Option Nat)) (s : State) :
    Plain f s (enterReleased f cs s) :=
  ((restful_modRelease f _ s).toPlain.then (plain_setState f _ _)).then
    ((((((restful_post f _ _ _ _ _).then (restful_stopSequence f _ _)).then (restful_dropCloses f _)).then
      (restful_modBerth f _ _)).then (restful_raise f _ _)).then (restful_openingPlan f cs _)).toPlain

theorem restful_returnToHolding (f : Face) (s : State) : Restful f s (returnToHolding f s) :=
  restful_when fun _ => (((restful_endProcedure f s).then (restful_cutWarning f _)).then
    (restful_dropCloses f _)).then (restful_modRelease f _ _)

theorem restful_furtherCause (f : Face) (c : Cause × Option Nat) (s : State) : Restful f s (furtherCause f c s) :=
  (((restful_returnToHolding f s).then (restful_modRelease f _ _)).then (restful_post f _ _ _ _ _)).then
    (restful_openingPlan f _ _)

/-- No cause appears at a face out of service (R123). -/
theorem restful_appear (f : Face) (cs : List (Cause × Option Nat)) (s : State) : Restful f s (appear f cs s) := by
  unfold appear
  split
  case h_1 => exact restful_refl f s
  case h_2 => exact restful_foldl (fun s c => restful_furtherCause f c s) cs s
  case h_3 h _ =>
    exact restful_ite (fun _ => restful_refl f s) fun _ => (plain_enterReleased f cs s).restful (not_idle_of_service h)

theorem restful_loopGoes (f : Face) (s : State) : Restful f s (loopGoes f s) :=
  restful_when fun _ => restful_modRelease f _ s

theorem restful_takeHandle (f : Face) (n : Nat) (p : Bool) (s : State) : Restful f s (takeHandle f n p s) :=
  restful_ite (fun _ => restful_appear f _ s) fun _ => restful_when fun _ =>
    (restful_modRelease f _ s).then (restful_loopGoes f _)

theorem restful_loopChanged (f : Face) (s : State) : Restful f s (loopChanged f s) :=
  restful_ite (fun _ => restful_refl f s) fun _ => restful_ite (fun _ => restful_loopGoes f s) fun _ =>
    restful_ite (fun _ => restful_refl f s) fun _ => restful_appear f _ s

theorem restful_fireChanged (f : Face) (s : State) : Restful f s (fireChanged f s) :=
  restful_ite (fun _ => restful_refl f s) fun _ => restful_ite
    (fun _ => restful_ite (fun _ => restful_refl f s) fun _ => restful_appear f _ s) fun _ => restful_modRelease f _ s

theorem restful_trainOffered (f : Face) (s : State) : Restful f s (trainOffered f s) :=
  restful_ite (fun _ => restful_refl f s) fun _ => restful_ite
    (fun _ => restful_ite (fun _ => restful_refl f s) fun _ => restful_appear f _ s) fun _ => restful_modRelease f _ s

theorem plain_surveyAfresh (f : Face) (s : State) : Plain f s (surveyAfresh f s) :=
  (plain_enterSurvey f s).then (restful_appear f _ _).toPlain

/-! ### Delivery.lean -/

theorem restful_answered (f : Face) (n : Nat) (s : State) : Restful f s (answered f n s) := by
  unfold answered
  split
  · exact restful_refl f s
  · exact restful_ite (fun _ => (restful_modBay f n _ s).then (restful_post f _ _ _ _ _)) fun _ =>
      restful_modBay f n _ s

theorem restful_countMiss (f : Face) (n : Nat) (s : State) : Restful f s (countMiss f n s) := by
  unfold countMiss
  split
  · exact restful_refl f s
  · rename_i e _
    have h := restful_modBay f n (fun x => { x with miss := min Config.missLimit (e.miss + 1) }) s
    exact restful_ite (fun _ => h.then (restful_raise f _ _)) fun _ => restful_ite (fun _ =>
      ((h.then (restful_modBay f n _ _)).then (restful_post f _ _ _ _ _)).then (restful_raise f _ _)) fun _ => h

theorem restful_lockedFinish (f : Face) (n : Nat) (s : State) : Restful f s (finishClosing f (enterLocked f n s)) :=
  (restful_modEntry f n _ s).then (restful_finishClosing f _)

theorem restful_closingReport (f : Face) (n : Nat) (r : Report) (s : State) :
    Restful f s (closingReport f n r s) := by
  unfold closingReport
  split
  · exact restful_refl f s
  · refine restful_ite (fun _ => restful_lockedFinish f n s) fun _ => restful_ite (fun _ => restful_orderClose f n s)
      fun _ => restful_when fun _ => restful_ite (fun _ => ?_) fun _ => restful_when fun _ => restful_modEntry f n _ s
    exact restful_raised ((restful_modEntry f n _ s).then (restful_countRetry f n _))

theorem restful_sequenceReport (f : Face) (n : Nat) (r : Report) (s : State) :
    Restful f s (sequenceReport f n r s) := by
  have h : Restful f s
      (if (s.stateOf f).watchesLocks && !r.lock then raise f [(.lock, some n)] s else s) :=
    restful_when fun _ => restful_raise f _ s
  exact (h.then (restful_checkOpened f _)).then (restful_closingReport f n r _)

theorem restful_gapInformed (f : Face) (n : Nat) (a : Bool) (s : State) : Restful f s (gapInformed f n a s) := by
  unfold gapInformed
  split
  · exact restful_when fun _ => restful_raised (restful_gapTrip f n s)
  · exact restful_ite (fun _ => restful_refl f s) fun _ => restful_orderClose f n s
  · exact restful_refl f s

theorem gapKind_ne (active : Bool) : (if active then EventKind.gapActive else .gapClear) ≠ .permitChanged := by
  cases active <;> decide

theorem restful_takeGap (f : Face) (n : Nat) (r : Report) (s : State) : Restful f s (takeGap f n r s) := by
  unfold takeGap
  split
  · exact restful_refl f s
  · dsimp only
    split
    · exact restful_modBay f n _ s
    · refine Restful.then (Restful.then ?_ (restful_when fun _ => restful_raise f _ _)) (restful_gapInformed f n _ _)
      exact (restful_modBay f n _ s).then (restful_post f _ _ _ _ _ (gapKind_ne _))

theorem restful_takeBeams (f : Face) (n : Nat) (r : Report) (s : State) : Restful f s (takeBeams f n r s) := by
  unfold takeBeams
  split
  · exact restful_refl f s
  · have h : ∀ x y, Restful f s (modSensing f y (modBay f n x s)) :=
      fun x y => (restful_modBay f n x s).then (restful_modSensing f y _)
    dsimp only
    split
    · exact restful_ite (fun _ => h _ _) fun _ => (h _ _).then (restful_raised (restful_closeOrTrip f n _))
    · exact h _ _

theorem restful_releaseBusy (f : Face) (n : Nat) (s : State) : Restful f s (releaseBusy f n s) :=
  restful_when fun _ => (restful_modBay f n _ s).then (restful_moveUp f n _)

theorem restful_deliver (f : Face) (n : Nat) (r : Report) (s : State) : Restful f s (deliver f n r s) :=
  restful_ite (fun _ => restful_refl f s) fun _ =>
    ((((((restful_answered f n s).then (restful_modBay f n _ _)).then (restful_takeHandle f n _ _)).then
      (restful_takeGap f n r _)).then (restful_takeBeams f n r _)).then (restful_sequenceReport f n r _)).then
      (restful_releaseBusy f n _)

theorem restful_pollComplete (f : Face) (n : Nat) (b : Bool) (s : State) : Restful f s (pollComplete f n b s) :=
  (restful_modBus f _ s).then (restful_when fun _ => restful_surveyPolled f n _)

theorem restful_reportTaken (f : Face) (k : TransKind) (r : Report) (s : State) :
    Restful f s (reportTaken f k r s) := by
  unfold reportTaken
  split
  · exact (restful_deliver f _ r s).then (restful_pollComplete f _ _ _)
  · exact (restful_deliver f _ r s).then (restful_modBus f _ _)
  · exact restful_deliver f _ r s
  · exact restful_refl f s

theorem restful_recheckLocked (f : Face) (n : Nat) (s : State) : Restful f s (recheckLocked f n s) :=
  restful_when fun _ => restful_lockedFinish f n s

theorem restful_orderTaken (f : Face) (n : Nat) (s : State) : Restful f s (orderTaken f n s) :=
  (restful_modBay f n _ s).then (restful_moveUp f n _)

theorem restful_orderBusy (f : Face) (n : Nat) (o : BayOrder) (s : State) : Restful f s (orderBusy f n o s) :=
  (restful_modBay f n _ s).then (restful_placeFollowUp f n _)

theorem restful_orderMissed (f : Face) (n : Nat) (s : State) : Restful f s (orderMissed f n s) :=
  (restful_modBay f n _ s).then (restful_ite (fun _ => restful_refl f _) fun _ => restful_moveUp f n _)

theorem restful_missedEnd (f : Face) (k : TransKind) (s : State) : Restful f s (missedEnd f k s) := by
  unfold missedEnd
  split
  · exact (restful_countMiss f _ s).then (restful_orderMissed f _ _)
  · exact (restful_countMiss f _ s).then (restful_pollComplete f _ _ _)
  · exact restful_countMiss f _ s
  · exact (restful_countMiss f _ s).then (restful_modBus f _ _)
  iterate 3 exact restful_refl f s

/-! ### Train.lean -/

theorem restful_giveStationary (f : Face) (s : State) : Restful f s (giveStationary f s) :=
  restful_when fun h => (plain_enterMeasuring f s).restful (not_idle_of_state h)

theorem restful_giveMoving (f : Face) (s : State) : Restful f s (giveMoving f s) := by
  unfold giveMoving
  dsimp only
  refine (restful_makeStale f s).then ?_
  split
  case h_6 => exact restful_refl f _
  case h_1 h | h_2 h =>
    exact ((plain_enterArriving f _).then (restful_vacantAgain f _).toPlain).restful (not_idle_of_state h)
  case h_3 h | h_4 h | h_5 h => exact (plain_trainMovement f _).restful (not_idle_of_state h)

theorem restful_linkPresent (f : Face) (b : Beacon) (s : State) : Restful f s (linkPresent f b s) :=
  (restful_modBerth f _ s).then (restful_when fun _ => restful_post f _ _ _ _ _)

theorem restful_arrived (f : Face) (b : Beacon) (s : State) : Restful f s (arrived f b s) :=
  restful_when fun h => ((plain_enterArriving f s).then ((((restful_select f _ _ _).then
    (restful_post f _ _ _ _ _)).then (restful_postMismatch f _ _ _)).then (restful_vacantAgain f _)).toPlain).restful
    (not_idle_of_state h)

theorem restful_motion (f : Face) (was : Berth) (b : Beacon) (s : State) : Restful f s (motion f was b s) :=
  restful_ite (fun _ => restful_when fun _ => restful_giveMoving f s) fun _ =>
    restful_when fun _ => restful_giveStationary f s

theorem restful_offer (f : Face) (was : Berth) (s : State) : Restful f s (offer f was s) :=
  Restful.then (restful_when fun _ => restful_acceptanceTest f s) (restful_trainOffered f _)

theorem restful_trainDoors (f : Face) (was : Berth) (b : Beacon) (s : State) :
    Restful f s (trainDoors f was b s) :=
  restful_when fun _ => restful_post f _ _ _ _ s

theorem restful_linkLost (f : Face) (s : State) : Restful f s (linkLost f s) :=
  ((restful_modBerth f _ s).then (restful_when fun _ =>
    ((restful_post f _ _ _ _ _).then (restful_modBerth f _ _)).then (restful_raise f _ _))).then (restful_offer f _ _)

theorem restful_vacancy (f : Face) (ss : List Strength) (s : State) : Restful f s (vacancy f ss s) :=
  restful_ite (fun _ => (restful_modBerth f _ s).then (restful_when fun _ =>
    (restful_modBerth f _ _).then (restful_giveVacant f _))) fun _ => restful_modBerth f _ s

theorem plain_takeReading (f : Face) (ss : List Strength) (s : State) : Plain f s (takeReading f ss s) :=
  ((restful_modBerth f _ s).toPlain.then (plain_takeSample f _ _)).then (restful_vacancy f _ _).toPlain

/-! ### Deadlines -/

theorem restful_failUnopened (f : Face) (s : State) : Restful f s (failUnopened f s) :=
  (restful_foldl (fun s _ => (restful_modSeq f _ s).then (restful_post f _ _ _ _ _)) _ s).then (restful_raise f _ _)

theorem restful_openTravelPassed (f : Face) (s : State) : Restful f s (openTravelPassed f s) :=
  (restful_failUnopened f s).then (restful_when fun h =>
    (plain_ite (plain_enterHeld f _) (plain_enterOpen f _)).restful (not_idle_of_state h))

theorem restful_setCap (f : Face) (d : Option Time) (s : State) : Restful f s (setCap f d s) := restful_modSeq f _ s

theorem plain_capPassed (f : Face) (s : State) : Plain f s (capPassed f s) :=
  ((restful_post f _ _ _ _ s).then (restful_setCap f _ _)).toPlain.then (plain_satisfied f _)

theorem restful_takeBays (f : Face) (p : Phase) (g : Nat → State → Raising) (h : ∀ n s, Restful f s (g n s).1)
    (s : State) : Restful f s (takeBays f p g s).1 := by
  unfold takeBays
  generalize s.baysIn f p = ns
  suffices ∀ x : Raising, Restful f x.1 (ns.foldl (takeBay f p g) x).1 from this (s, [])
  induction ns with
  | nil => exact fun x => restful_refl f _
  | cons n ns ih =>
    refine fun x => Restful.then ?_ (ih _)
    unfold takeBay
    split
    · exact h n _
    · exact restful_refl f _

theorem restful_leaveWaiting (f : Face) (n : Nat) (s : State) : Restful f s (leaveWaiting f n s).1 := by
  unfold leaveWaiting
  split
  · exact restful_modEntry f n _ s
  · exact restful_closeOrTrip f n s

theorem restful_warningOver (f : Face) (s : State) : Restful f s (warningOver f s) := by
  have h := ((restful_modSeq f (fun r => { r with endOfWarning := none }) s).then
    (restful_groupWarn f false _)).then (restful_takeBays f .waiting _ (fun n s => restful_leaveWaiting f n s) _)
  exact restful_raised (h.then (restful_modSeq f (fun r => { r with doorway := _ }) _))

theorem restful_doorwayOver (f : Face) (s : State) : Restful f s (doorwayOver f s) :=
  restful_raised (restful_takeBays f .doorway _ (fun n s => restful_closeOrTrip f n s) s)

theorem restful_pauseOver (f : Face) (n : Nat) (s : State) : Restful f s (pauseOver f n s) :=
  restful_ite (fun _ => restful_modEntry f n _ s) fun _ => restful_orderClose f n s

theorem restful_travelOver (f : Face) (n : Nat) (s : State) : Restful f s (travelOver f n s) :=
  restful_raised ((restful_countRetry f n s).then
    (restful_ite (fun _ => restful_orderClose f n _) fun _ => restful_refl f _))

theorem restful_proofOver (f : Face) (n : Nat) (s : State) : Restful f s (proofOver f n s) :=
  (restful_raise f _ s).then (restful_when fun _ => restful_ite (fun _ => restful_modEntry f n _ _) fun _ =>
    (restful_issue f n _ _).then (restful_modEntry f n _ _))

theorem restful_enableOffered (f : Face) (s : State) : Restful f s (enableOffered f s) :=
  Restful.then (restful_when fun _ => restful_post f _ _ _ _ s) (restful_acceptanceTest f _)

/-! ### Requests -/

theorem restful_placeOrder (f : Face) (id : Byte) (s : State) : Restful f s (placeOrder f id s) := restful_modSeq f _ s

/-- Only a face in OPEN waits for a connection, so an idle one does not. -/
theorem restful_retestHold (f : Face) (cap : Nat) (s : State) : Restful f s (retestHold f cap s) :=
  restful_when fun h => restful_ite (fun _ =>
    ((restful_setCap f none s).toPlain.then (plain_satisfied f _)).restful (not_idle_of_substate h)) fun _ =>
    restful_setCap f _ s

theorem restful_cancelHold (f : Face) (s : State) : Restful f s (cancelHold f s) :=
  restful_ite (fun h => ((restful_clearHold f s).toPlain.then (plain_satisfied f _)).restful (not_idle_of_substate h))
    fun _ => restful_clearHold f s

theorem plain_dwellSet (f : Face) (v : DwellValues) (s : State) : Plain f s (dwellSet f v s) :=
  plain_modSeq f _ s (by dsimp only; split <;> rfl)

theorem restful_clearFaults (f : Face) (named : Flag → Bool) (s : State) : Restful f s (clearFaults f named s) :=
  ((restful_modFault f _ s).then (restful_ite (fun _ => restful_refl f _) fun _ => restful_modFault f _ _)).then
    (restful_post f _ _ _ _ _)

theorem plain_resetRelease (f : Face) (s : State) : Plain f s (resetRelease f s) :=
  (((restful_modRelease f _ s).then (restful_modBerth f _ _)).then (restful_post f _ _ _ _ _)).toPlain.then
    (plain_ite (plain_enterSurvey f _) ((restful_modRelease f _ _).toPlain.then (plain_startRecovery f _)))

end Sys2Proof.Machine
end

section
/-!
SUPPORT. The end of an event (R154): what the work before it leaves of the permits, the value and the records of
PERMIT_CHANGED that it leaves itself, and what such records say.
-/

-- One proof after another: side by side their threads' stacks fill the checker's memory.
set_option Elab.async false

namespace Sys2Proof.Machine

open Sys2Proof.Safety

/-! ### The work before an event's end -/

/-- The invariant `PermitComposed` but for the value driven. -/
def Resting (s : State) : Prop :=
  (∀ f, AtRest f s) ∧ (s.store.load = .loading → ∀ f, s.stateOf f = .outOfService)

/-- What the work of a command leaves before its event ends: the values driven, and no new PERMIT_CHANGED. -/
structure Unsettled (s v : State) : Prop where
  permit : ∀ f, (v.face f).permit = (s.face f).permit
  records : v.permitRecords.Sublist s.permitRecords
  resting : Resting s → Resting v

theorem Unsettled.then {s t u : State} (h : Unsettled s t) (k : Unsettled t u) : Unsettled s u :=
  ⟨fun f => (k.permit f).trans (h.permit f), k.records.trans h.records, fun x => k.resting (h.resting x)⟩

theorem atRest_of_idle {f : Face} {s : State} (h : Idle f s) : AtRest f s := fun _ => ⟨h.closing, h.substate⟩

theorem atRest_idle {f : Face} {s : State} (h : AtRest f s) (k : s.stateOf f = .outOfService) : Idle f s :=
  ⟨k, (h k).1, (h k).2⟩

/-- A face's rest is read in its Face Record. -/
theorem atRest_congr {f : Face} {s t : State} (h : (t.face f).seq = (s.face f).seq) (k : AtRest f s) : AtRest f t := by
  unfold AtRest State.stateOf at *
  rwa [h]

theorem Restful.atRest {f : Face} {s t : State} (h : Restful f s t) (k : AtRest f s) : AtRest f t := fun o => by
  by_cases hs : s.stateOf f = .outOfService
  · exact atRest_of_idle (h.rest (atRest_idle k hs)) o
  · exact absurd o (h.service hs)

theorem within_other_seq {f : Face} {s t : State} (h : Within f s t) :
    (t.face (otherFace f)).seq = (s.face (otherFace f)).seq := by
  rw [← h.other]

theorem within_other_permit {f : Face} {s t : State} (h : Within f s t) :
    (t.face (otherFace f)).permit = (s.face (otherFace f)).permit := by
  rw [← h.other]

/-- A property of both faces is one of a face and of its other face. -/
theorem both_faces {p : Face → Prop} (f : Face) (h : p f) (k : p (otherFace f)) : ∀ g, p g := fun g => by
  by_cases e : g = f
  · rwa [e]
  · rwa [eq_otherFace e]

/-- Restful work at one face that leaves the value driven, and of the other face the value and the Face Record. -/
theorem unsettled_of_restful {f : Face} {s v : State} (r : Restful f s v)
    (p : (v.face f).permit = (s.face f).permit)
    (po : (v.face (otherFace f)).permit = (s.face (otherFace f)).permit)
    (so : (v.face (otherFace f)).seq = (s.face (otherFace f)).seq) (st : v.store = s.store) : Unsettled s v where
  permit := both_faces f p po
  records := r.records ▸ List.Sublist.refl _
  resting := fun ⟨hr, hl⟩ =>
    ⟨both_faces f (r.atRest (hr f)) (atRest_congr so (hr _)), fun l => by
      have out := hl (st ▸ l)
      exact both_faces f (r.rest (atRest_idle (hr f) (out f))).out
        ((congrArg FaceRecord.state so).trans (out (otherFace f)))⟩

/-- Work at one face. -/
theorem unsettled_of_face {f : Face} {s v : State} (w : Within f s v) (r : Restful f s v) : Unsettled s v :=
  unsettled_of_restful r w.permit (within_other_permit w) (within_other_seq w) w.store

theorem unsettled_modSeq {f : Face} {g : FaceRecord → FaceRecord} {s : State} (r : Restful f s (modSeq f g s)) :
    Unsettled s (modSeq f g s) :=
  unsettled_of_restful r (by rw [modSeq_face]) (by rw [modSeq_other]) (by rw [modSeq_other]) rfl

theorem unsettled_modFault (f : Face) (g : FaultUnit → FaultUnit) (s : State) : Unsettled s (modFault f g s) :=
  unsettled_of_restful (restful_modFault f g s) (by rw [modFault_face]) (by rw [modFault_other])
    (by rw [modFault_other]) rfl

/-- Changes that no permit and no rest is read from. -/
theorem unsettled_of {s t : State} (e : t.permitRecords.Sublist s.permitRecords)
    (p : ∀ g, (t.face g).permit = (s.face g).permit) (st : ∀ g, t.stateOf g = s.stateOf g)
    (ck : ∀ g, (t.face g).seq.closingKind = (s.face g).seq.closingKind)
    (sub : ∀ g, (t.face g).seq.substate = (s.face g).seq.substate)
    (l : t.store.load = .loading → s.store.load = .loading) : Unsettled s t where
  permit := p
  records := e
  resting := fun ⟨hr, hl⟩ =>
    ⟨fun g o => by rw [ck, sub]; exact hr g ((st g).symm.trans o), fun x g => (st g).trans (hl (l x) g)⟩

theorem unsettled_refl (s : State) : Unsettled s s := ⟨fun _ => rfl, List.Sublist.refl _, id⟩

theorem unsettled_elapse (n : Nat) (s : State) : Unsettled s (elapse n s) := by
  exact unsettled_of (by rw [State.permitRecords, elapse_events]; exact List.Sublist.refl _) (by simp) (by simp)
    (fun g => (congrArg FaceRecord.closingKind (elapse_seq n g s) :))
    (fun g => (congrArg FaceRecord.substate (elapse_seq n g s) :)) (by simp)

theorem unsettled_advanceTo (d : Time) (s : State) : Unsettled s (advanceTo d s) := by
  rcases advanceTo_elapse d s with h | ⟨n, h⟩ <;> rw [h]
  · exact unsettled_refl s
  · exact unsettled_elapse n s

/-! ### The end of an event -/

/-- The PERMIT_CHANGED record of a face with the value driven now. -/
def State.permitRecord (t : State) (f : Face) : EventRecord :=
  ⟨.permitChanged, some f, none, t.time, [yesNo (t.face f).permit]⟩

/-- The Event Queue `es` once a change of a face's value from `s` to `t` has been posted. -/
def announce (s t : State) (f : Face) (es : List EventRecord) : List EventRecord :=
  if (t.face f).permit ≠ (s.face f).permit ∧ es.length < Config.queueSize then es ++ [t.permitRecord f] else es

theorem announce_congr {s t u : State} {f : Face} {es : List EventRecord}
    (h : (t.face f).permit = (u.face f).permit) (ht : t.time = u.time) : announce s t f es = announce s u f es := by
  unfold announce State.permitRecord
  rw [h, ht]

/-- What a step leaves: the permits composed, and each change of a value posted behind every other record, face
A's before face B's. -/
structure Ended (s t : State) : Prop where
  composed : PermitComposed t
  queue : ∃ es : List EventRecord, (es.filter fun x => x.kind == .permitChanged).Sublist s.permitRecords
    ∧ t.events = announce s t .b (announce s t .a es)

/-- A change of a value posted at the end of an event. -/
theorem composePermit_queue (f : Face) (s : State) :
    (composePermit f s).events =
      if s.permitComposed f ≠ (s.face f).permit ∧ s.events.length < Config.queueSize then
        s.events ++ [⟨.permitChanged, some f, none, s.time, [yesNo (s.permitComposed f)]⟩]
      else s.events := by
  by_cases hv : s.permitComposed f = (s.face f).permit
  · simp [composePermit, hv]
  · by_cases hl : s.events.length < Config.queueSize <;> simp [composePermit, post, hv, hl]

theorem ended_settle {s v : State} (hs : Resting s) (w : Unsettled s v) : Ended s (settle v) where
  composed := by
    obtain ⟨hr, hl⟩ := w.resting hs
    refine ⟨fun f => settle_permit f v, fun f => atRest_congr ?_ (hr f), fun l f => ?_⟩
    · rw [settle_face]
    · rw [settle_stateOf]; exact hl (settle_store v ▸ l) f
  queue := by
    refine ⟨v.events, w.records, ?_⟩
    have hb : (composePermit .a v).face .b = v.face .b := composePermit_other .a v
    unfold settle
    rw [composePermit_queue, composePermit_queue, hb, permitComposed_congr hb (composePermit_store .a v),
      composePermit_time]
    change _ = announce s (settle v) .b (announce s (settle v) .a v.events)
    unfold announce State.permitRecord
    simp only [settle_face, settle_time, w.permit]

/-- Where every permit stays composed, nothing is posted. -/
theorem ended_quiet {s t : State} (hs : Resting s) (w : Unsettled s t) (c : Composed t) : Ended s t :=
  settle_composed c ▸ ended_settle hs w

/-- What the signalling of the permits reads is unchanged. -/
theorem Ended.congr {s u t : State} (h : Ended s u) (e : t.events = u.events) (ht : t.time = u.time)
    (hs : t.store = u.store) (hf : ∀ g, { t.face g with berth := (u.face g).berth } = u.face g) : Ended s t := by
  obtain ⟨⟨hc, hr, hl⟩, es, hes, hq⟩ := h
  have hp : ∀ g, (t.face g).permit = (u.face g).permit := fun g => (congrArg FaceBlock.permit (hf g) :)
  have hseq : ∀ g, (t.face g).seq = (u.face g).seq := fun g => (congrArg FaceBlock.seq (hf g) :)
  have hst : ∀ g, t.stateOf g = u.stateOf g := fun g => congrArg FaceRecord.state (hseq g)
  refine ⟨⟨fun g => ?_, fun g => atRest_congr (hseq g) (hr g), fun l g => ?_⟩, es, hes, ?_⟩
  · rw [hp, hc, permitComposed_of (hst g) (congrArg (·.loop.level) (hf g) :)
      (by rw [State.params, State.cfg, hs]; rfl) (congrArg FaceBlock.bays (hf g) :)]
  · rw [hst]; exact hl (hs ▸ l) g
  · rw [e, hq, announce_congr (hp _) ht, announce_congr (hp _) ht]

/-- An operation of the Link Interface alone. -/
structure LinkOnly (s t : State) : Prop where
  events : t.events = s.events
  time : t.time = s.time
  store : t.store = s.store
  faces : t.faces = s.faces

theorem LinkOnly.then {s t u : State} (h : LinkOnly s t) (k : LinkOnly t u) : LinkOnly s u :=
  ⟨k.events.trans h.events, k.time.trans h.time, k.store.trans h.store, k.faces.trans h.faces⟩

theorem Ended.link {s u t : State} (h : Ended s u) (l : LinkOnly u t) : Ended s t :=
  h.congr l.events l.time l.store fun g => by rw [State.face, l.faces]; rfl

theorem Ended.modBerth {s u : State} (h : Ended s u) (f : Face) (g : Berth → Berth) : Ended s (modBerth f g u) :=
  h.congr rfl rfl rfl fun e => by cases f <;> cases e <;> rfl

/-! ### What the end of an event says -/

theorem announce_room {s t : State} {f : Face} {es : List EventRecord}
    (h : (announce s t f es).length < Config.queueSize) :
    es.length < Config.queueSize
      ∧ announce s t f es = es ++ (if (t.face f).permit ≠ (s.face f).permit then [t.permitRecord f] else []) := by
  unfold announce at *
  by_cases hc : (t.face f).permit = (s.face f).permit
  · simpa [hc] using h
  · by_cases hl : es.length < Config.queueSize
    · simp [hc, hl]
    · rw [if_neg fun k => hl k.2] at h
      exact absurd h hl

/-- In a queue with room each change's record stands last, or last but for that of the other face's change. -/
theorem Ended.last {s t : State} (h : Ended s t) {f : Face} (c : (t.face f).permit ≠ (s.face f).permit)
    (room : t.events.length < Config.queueSize) :
    ∃ before after, t.events = before ++ t.permitRecord f :: after
      ∧ (after = [] ∨ (t.face (otherFace f)).permit ≠ (s.face (otherFace f)).permit
        ∧ after = [t.permitRecord (otherFace f)]) := by
  obtain ⟨es, -, hq⟩ := h.queue
  rw [hq] at room ⊢
  obtain ⟨room, hb⟩ := announce_room room
  obtain ⟨-, ha⟩ := announce_room room
  rw [hb, ha]
  cases f with
  | a =>
    refine ⟨es, if (t.face .b).permit ≠ (s.face .b).permit then [t.permitRecord .b] else [], by simp [c], ?_⟩
    by_cases cb : (t.face .b).permit = (s.face .b).permit
    · exact .inl (by simp [cb])
    · exact .inr ⟨cb, by simp [cb]; rfl⟩
  | b => exact ⟨_, [], by rw [if_pos c], .inl rfl⟩

/-- A record of PERMIT_CHANGED for a face. -/
def EventRecord.permitOf (f : Face) (x : EventRecord) : Bool := x.kind == .permitChanged && x.face == some f

theorem announce_count (s t : State) (f g : Face) (es : List EventRecord) :
    ((announce s t g es).filter (EventRecord.permitOf f)).length
      ≤ (es.filter (EventRecord.permitOf f)).length
        + (if g = f ∧ (t.face f).permit ≠ (s.face f).permit then 1 else 0) := by
  unfold announce
  split
  next h =>
    by_cases e : g = f
    · subst e; simp [EventRecord.permitOf, State.permitRecord, h.1]
    · simp [EventRecord.permitOf, State.permitRecord, e]
  next => exact Nat.le_add_right _ _

/-- Records that stood in the queue are no more than before. -/
theorem permitOf_count {es : List EventRecord} {s : State}
    (h : (es.filter fun x => x.kind == .permitChanged).Sublist s.permitRecords) (f : Face) :
    (es.filter (EventRecord.permitOf f)).length ≤ (s.events.filter (EventRecord.permitOf f)).length := by
  have split : ∀ xs : List EventRecord, xs.filter (EventRecord.permitOf f)
      = (xs.filter fun x => x.kind == .permitChanged).filter fun x => x.face == some f := fun xs => by
    rw [List.filter_filter]
    exact List.filter_congr fun x _ => Bool.and_comm _ _
  rw [split, split]
  exact (h.filter _).length_le

/-- One record of a face at most, and none where the value stays. -/
theorem Ended.count {s t : State} (h : Ended s t) (f : Face) :
    (t.events.filter (EventRecord.permitOf f)).length
      ≤ (s.events.filter (EventRecord.permitOf f)).length
        + (if (t.face f).permit = (s.face f).permit then 0 else 1) := by
  obtain ⟨es, hes, hq⟩ := h.queue
  have h0 := permitOf_count hes f
  have ha := announce_count s t f .a es
  have hb := announce_count s t f .b (announce s t .a es)
  rw [hq]
  by_cases c : (t.face f).permit = (s.face f).permit
  · simp only [c, ne_eq, not_true_eq_false, and_false, if_true, if_false] at ha hb ⊢
    omega
  · cases f <;> simp [c] at ha hb ⊢ <;> omega

end Sys2Proof.Machine
end

section
/-!
SUPPORT. What the composition of PERMIT reads (R153), and what the loads (R3, R15 to R17), power and RESTART
(R157, R167) make of both faces' permits.
-/

-- One proof after another: side by side their threads' stacks fill the checker's memory.
set_option Elab.async false

namespace Sys2Proof.Machine

open Sys2Proof.Safety

/-! ### The composition -/

/-- The five inputs of a permit (R153). -/
theorem permitComposed_iff (s : State) (f : Face) :
    s.permitComposed f = true ↔
      (s.stateOf f = .empty ∨ s.stateOf f = .arriving ∨ s.stateOf f = .measuring ∨ s.stateOf f = .berthed
          ∨ s.stateOf f = .closedLocked)
        ∧ (s.face f).loop.level = decide ((s.params f).loopSense = 0)
        ∧ ∀ e ∈ (s.face f).bays,
            (∃ r since, e.report = some (r, since) ∧ r.lock = true) ∧ e.silent = false
              ∧ ∀ q, e.gap = some q → q.active = false := by
  have state : (s.stateOf f).mayPermit = true ↔
      (s.stateOf f = .empty ∨ s.stateOf f = .arriving ∨ s.stateOf f = .measuring ∨ s.stateOf f = .berthed
          ∨ s.stateOf f = .closedLocked) := by
    cases s.stateOf f <;> decide
  have loop : s.loopClosed f = true ↔ (s.face f).loop.level = decide ((s.params f).loopSense = 0) := by
    unfold State.loopClosed
    by_cases h : (s.params f).loopSense = 0 <;> simp [h]
  have bay : ∀ e : BayEntry, (e.locked && !e.silent && !e.gapIsActive) = true ↔
      (∃ r since, e.report = some (r, since) ∧ r.lock = true) ∧ e.silent = false
        ∧ ∀ q, e.gap = some q → q.active = false := by
    intro e
    unfold BayEntry.locked BayEntry.gapIsActive
    rcases e.report with _ | ⟨r, since⟩ <;> cases e.silent <;> cases e.gap <;> simp
  unfold State.permitComposed
  rw [Bool.and_eq_true, Bool.and_eq_true, List.all_eq_true, state, loop, and_assoc]
  exact and_congr_right fun _ => and_congr_right fun _ => forall₂_congr fun e _ => bay e

/-- While both faces are out of service no permit stands, whatever the configuration (R3). -/
theorem composed_out {s t : State} (c : Composed s) (h : ∀ f, s.stateOf f = .outOfService)
    (k : ∀ f, t.face f = s.face f) : Composed t := fun f => by
  have hs : s.permitComposed f = false := permitComposed_closed (by rw [h f]; rfl)
  have ht : t.permitComposed f = false :=
    permitComposed_closed (by rw [State.stateOf, k f, ← State.stateOf, h f]; rfl)
  rw [k f, c f, hs, ht]

/-- A change of the bus alone. -/
theorem composed_modBus {s : State} (h : Composed s) (f : Face) (g : Bus → Bus) : Composed (modBus f g s) :=
  composed_modFace h f _ rfl rfl rfl rfl

theorem composed_start {s : State} (h : Composed s) (f : Face) (k : TransKind) (r : Bool) :
    Composed (start f k r s) := by
  unfold start send
  exact composed_modBus (composed_modBus h f _) f _

theorem composed_ownTransaction {s : State} (h : Composed s) (f : Face) : Composed (ownTransaction f s) := by
  unfold ownTransaction
  dsimp only
  split
  iterate 3 exact composed_start h f _ _
  split
  · exact composed_start (composed_modBus h f _) f _ _
  · split
    · exact h
    · exact composed_start h f _ _

theorem composed_serveGap {s : State} (h : Composed s) (f : Face) (xs : List DispatchEntry) :
    Composed (serveGap f xs s) := by
  cases xs with
  | nil => exact composed_ownTransaction (composed_modBus h f _) f
  | cons x xs => exact composed_start (composed_modBus h f _) f _ _

theorem composed_beginTurn {s : State} (h : Composed s) (f : Face) : Composed (beginTurn f s) := by
  unfold beginTurn
  split
  · exact h
  · exact composed_serveGap (composed_modBus h f _) f _

/-! ### A face brought into SURVEY afresh -/

@[simp] theorem enterSurvey_stateOf (f : Face) (s : State) : (enterSurvey f s).stateOf f = .survey := by
  simp [enterSurvey]

/-- A face brought into SURVEY with its causes found afresh is in SURVEY, or RELEASED where there are causes. -/
theorem surveyAfresh_stateOf (f : Face) (s : State) :
    (surveyAfresh f s).stateOf f = .survey ∨ (surveyAfresh f s).stateOf f = .released := by
  unfold surveyAfresh
  dsimp only
  by_cases h : (enterSurvey f s).causesFound f = []
  · rw [h, appear_nil]
    exact .inl (enterSurvey_stateOf f s)
  · exact .inr (appear_stateOf (by simp) h)

/-- Such a face begins its turns. -/
theorem freshTurn_stateOf (f : Face) (s : State) :
    (endTurn f (surveyAfresh f s)).stateOf f = .survey ∨ (endTurn f (surveyAfresh f s)).stateOf f = .released := by
  unfold endTurn
  rw [modBus_stateOf]
  exact surveyAfresh_stateOf f s

theorem within_freshTurn (f : Face) (s : State) : Within f s (endTurn f (surveyAfresh f s)) :=
  (within_surveyAfresh f s).then (within_endTurn f _)

theorem plain_freshTurn (f : Face) (s : State) : Plain f s (endTurn f (surveyAfresh f s)) :=
  (plain_surveyAfresh f s).then (restful_modBus f _ _).toPlain

/-! ### Loads (R3, R4, R15 to R17) -/

theorem unsettled_outOfService (f : Face) (s : State) : Unsettled s (outOfService f s) := by
  have w := within_lapse f s
  have hf : ((outOfService f s).face f).seq = {} := by simp [outOfService, FaceBlock.afterLoadBegin]
  have ho : (outOfService f s).face (otherFace f) = (lapse f s).face (otherFace f) := modFace_other f _ _
  refine ⟨both_faces f ?_ ?_, ?_, fun ⟨hr, hl⟩ => ⟨both_faces f ?_ ?_, fun l => both_faces f ?_ ?_⟩⟩
  · exact (congrArg FaceBlock.permit (modFace_face f _ _)).trans w.permit
  · rw [ho]; exact within_other_permit w
  · exact (restful_lapse f s).records ▸ List.Sublist.refl _
  · exact fun _ => by rw [hf]; exact ⟨rfl, rfl⟩
  · exact atRest_congr (by rw [ho]; exact within_other_seq w) (hr _)
  · rw [State.stateOf, hf]
  · rw [State.stateOf, ho, within_other_seq w]
    exact hl (w.store ▸ l) _

theorem outOfService_stateOf (f : Face) (s : State) : (outOfService f s).stateOf f = .outOfService := by
  simp [outOfService, FaceBlock.afterLoadBegin, State.stateOf]

theorem outOfService_stateOf_other (f : Face) (s : State) :
    (outOfService f s).stateOf (otherFace f) = s.stateOf (otherFace f) := by
  rw [State.stateOf, outOfService, modFace_other, ← State.stateOf, lapse_stateOf]

theorem unsettled_beginLoad (s : State) : Unsettled s (beginLoad s) := by
  have h := (unsettled_outOfService .a s).then (unsettled_outOfService .b _)
  refine ⟨h.permit, h.records, fun x => ⟨(h.resting x).1, fun _ => both_faces .b ?_ ?_⟩⟩
  · exact outOfService_stateOf .b _
  · exact (outOfService_stateOf_other .b _).trans (outOfService_stateOf .a s)

/-- A face brought into service, once no load is open. -/
theorem unsettled_bringIn (f : Face) {s : State} (hl : s.store.load = .idle) : Unsettled s (bringIn f s) := by
  unfold bringIn
  dsimp only
  generalize hu : modFace f _ s = u
  have w := within_freshTurn f u
  have hp : (u.face f).permit = (s.face f).permit := by rw [← hu, modFace_face]
  have ho : u.face (otherFace f) = s.face (otherFace f) := by rw [← hu, modFace_other]
  have hs : u.store = s.store := by rw [← hu]; rfl
  have he : u.permitRecords = s.permitRecords := by rw [← hu]; rfl
  refine ⟨both_faces f ?_ ?_, ?_, fun ⟨hr, _⟩ => ⟨both_faces f ?_ ?_, fun l => ?_⟩⟩
  · rw [w.permit, hp]
  · rw [within_other_permit w, ho]
  · rw [(plain_freshTurn f u).records, he]
  · intro out
    rcases freshTurn_stateOf f u with h | h <;> rw [h] at out <;> cases out
  · exact atRest_congr (by rw [within_other_seq w, ho]) (hr _)
  · rw [w.store, hs, hl] at l
    cases l

theorem unsettled_bringIn_when (f : Face) (pass : Bool) {s v : State} (h : Unsettled s v)
    (hl : v.store.load = .idle) : Unsettled s (if pass then bringIn f v else v) := by
  split
  · exact h.then (unsettled_bringIn f hl)
  · exact h

@[simp] theorem bringIn_store (f : Face) (s : State) : (bringIn f s).store = s.store := (within_freshTurn f _).store

theorem unsettled_completeLoad (pass : PerFace Bool) (s : State) : Unsettled s (completeLoad pass s) := by
  unfold completeLoad
  dsimp only
  generalize hu : modStore _ s = u
  have hl : u.store.load = .idle := by rw [← hu]; rfl
  have h : Unsettled s u := by
    subst hu
    exact ⟨fun _ => rfl, List.Sublist.refl _, fun x => ⟨x.1, nofun⟩⟩
  have h := h.then (unsettled_of_face (f := .a) (within_post .a .loadDone none none [yesNo pass.a, yesNo pass.b] u)
    (restful_post _ _ _ _ _ _))
  refine unsettled_bringIn_when .b pass.b (unsettled_bringIn_when .a pass.a h (by simpa using hl)) ?_
  split <;> simpa using hl

theorem unsettled_abandonLoad (s : State) : Unsettled s (modStore abandonLoad s) :=
  ⟨fun _ => rfl, List.Sublist.refl _, fun x => ⟨x.1, nofun⟩⟩

/-! ### Power and RESTART (R157, R167) -/

/-- A face that RESTART or power has reset: its permit is withdrawn, and its state is one without a permit. -/
structure Withdrawn (f : Face) (s : State) : Prop where
  permit : (s.face f).permit = false
  closed : (s.stateOf f).mayPermit = false
  rest : AtRest f s

theorem Withdrawn.composed {s : State} (h : ∀ f, Withdrawn f s) : Composed s := fun f => by
  rw [(h f).permit, permitComposed_closed (h f).closed]

theorem withdrawn_congr {f : Face} {s t : State} (h : (t.face f).permit = (s.face f).permit)
    (k : (t.face f).seq = (s.face f).seq) (w : Withdrawn f s) : Withdrawn f t :=
  ⟨h.trans w.permit, by rw [State.stateOf, k]; exact w.closed, atRest_congr k w.rest⟩

/-- What RESTART at face `f` makes of that face, and what it leaves of the other face and of the part. -/
structure Restarted (f : Face) (s t : State) : Prop where
  withdrawn : Withdrawn f t
  permit : (t.face (otherFace f)).permit = (s.face (otherFace f)).permit
  seq : (t.face (otherFace f)).seq = (s.face (otherFace f)).seq
  records : t.permitRecords = s.permitRecords
  store : t.store = s.store

theorem restartFace_restarted (f : Face) (s : State) : Restarted f s (restartFace f s) := by
  unfold restartFace
  dsimp only
  generalize hu : modFace f _ s = u
  have hf : (u.face f).permit = false := by rw [← hu, modFace_face]; rfl
  have ho : u.face (otherFace f) = s.face (otherFace f) := by rw [← hu, modFace_other]
  have he : u.permitRecords = s.permitRecords := by rw [← hu]; rfl
  have hs : u.store = s.store := by rw [← hu]; rfl
  split
  · have w := within_freshTurn f u
    refine ⟨⟨w.permit.trans hf, ?_, ?_⟩, (within_other_permit w).trans (by rw [ho]),
      (within_other_seq w).trans (by rw [ho]), (plain_freshTurn f u).records.trans he, w.store.trans hs⟩
    · rcases freshTurn_stateOf f u with h | h <;> rw [h] <;> rfl
    · intro out
      rcases freshTurn_stateOf f u with h | h <;> rw [h] at out <;> cases out
  · rename_i h
    have out : s.stateOf f = .outOfService := by simpa using h
    have hst : u.stateOf f = .outOfService := by rw [← hu, State.stateOf, modFace_face]; exact out
    have hseq : (u.face f).seq.closingKind = none ∧ (u.face f).seq.substate = none := by
      rw [← hu, modFace_face]; exact ⟨rfl, rfl⟩
    exact ⟨⟨hf, by rw [hst]; rfl, fun _ => hseq⟩, by rw [ho], by rw [ho], he, hs⟩

/-- Once both faces have been restarted no permit stands, and nothing has been posted of the permits. -/
theorem restartFaces_law {s : State} (he : s.permitRecords = []) (hl : s.store.load = .idle) :
    PermitComposed (restartFace .b (restartFace .a s))
      ∧ (restartFace .b (restartFace .a s)).permitRecords = [] := by
  have a := restartFace_restarted .a s
  have b := restartFace_restarted .b (restartFace .a s)
  have w : ∀ f, Withdrawn f (restartFace .b (restartFace .a s)) :=
    both_faces .b b.withdrawn (withdrawn_congr b.permit b.seq a.withdrawn)
  refine ⟨⟨Withdrawn.composed w, fun f => (w f).rest, fun l => ?_⟩, by rw [b.records, a.records, he]⟩
  rw [b.store, a.store, hl] at l
  cases l

/-- RESTART empties the queue and abandons a load that is open before it restarts the faces (R18, R167), so it
withdraws both permits and posts no PERMIT_CHANGED (R157). -/
theorem resetWorking_law (s : State) :
    PermitComposed (resetWorking s) ∧ (resetWorking s).permitRecords = [] := by
  refine restartFaces_law rfl ?_
  dsimp only
  cases h : s.store.load <;> simp [abandonLoad, h]

theorem powerOn_law (s : State) : PermitComposed (powerOn s) ∧ (powerOn s).permitRecords = [] := by
  have w : ∀ f, Withdrawn f (powerOn s) := fun f => by cases f <;> exact ⟨rfl, rfl, fun _ => ⟨rfl, rfl⟩⟩
  exact ⟨⟨Withdrawn.composed w, fun f => (w f).rest, nofun⟩, rfl⟩

end Sys2Proof.Machine
end

section
/-!
SUPPORT. PERMIT is the composition of its five inputs (R153, R154): each command from a state in which both permits
are composed, and with them each step.
-/

-- One proof after another: side by side their threads' stacks fill the checker's memory.
set_option Elab.async false

namespace Sys2Proof.Machine

open Sys2Proof.Safety

/-! ### The Link Interface (R158, R159) -/

theorem linkOnly_refl (s : State) : LinkOnly s s := ⟨rfl, rfl, rfl, rfl⟩

theorem linkOnly_enterBuffer (fr : Frame) (s : State) : LinkOnly s (enterBuffer fr s) := by
  unfold enterBuffer
  split <;> exact ⟨rfl, rfl, rfl, rfl⟩

theorem linkOnly_discardFrame (s : State) : LinkOnly s (discardFrame s) := ⟨rfl, rfl, rfl, rfl⟩

theorem linkOnly_frameDone (bs : List Byte) (s : State) : LinkOnly s (frameDone bs s) := by
  unfold frameDone
  split
  · have h : LinkOnly s { s with receiver := .hunting } := ⟨rfl, rfl, rfl, rfl⟩
    exact h.then (linkOnly_enterBuffer _ _)
  · exact linkOnly_discardFrame s

theorem linkOnly_gather (b : Byte) (s : State) : LinkOnly s (gather b s) := by
  unfold gather
  dsimp only
  split
  · split
    · exact ⟨rfl, rfl, rfl, rfl⟩
    · exact linkOnly_refl s
  · split
    · exact linkOnly_discardFrame s
    · split
      · exact linkOnly_frameDone _ s
      · exact ⟨rfl, rfl, rfl, rfl⟩

theorem linkOnly_receiveByte (b : Byte) (s : State) : LinkOnly s (receiveByte b s) := by
  unfold receiveByte
  refine LinkOnly.then ?_ (linkOnly_gather b _)
  split
  · exact linkOnly_discardFrame s
  · exact linkOnly_refl s

/-! ### Events -/

theorem ended_refl {s : State} (hs : PermitComposed s) : Ended s s := ended_quiet hs.2 (unsettled_refl s) hs.1

/-- An event at one face, once the time up to it has passed. -/
theorem ended_event {f : Face} {s u v : State} (hs : PermitComposed s) (h : Unsettled s u) (w : Within f u v)
    (r : Restful f u v) : Ended s (settle v) :=
  ended_settle hs.2 (h.then (unsettled_of_face w r))

section
variable {s : State} (hs : PermitComposed s)
include hs

theorem ended_advanceTo (d : Time) : Ended s (advanceTo d s) :=
  ended_quiet hs.2 (unsettled_advanceTo d s) (composed_advanceTo hs.1 d)

/-- An event at one face, at a deadline. -/
theorem ended_deadline {f : Face} {v : State} (d : Time) (w : Within f (advanceTo d s) v)
    (r : Restful f (advanceTo d s) v) : Ended s (settle v) :=
  ended_event hs (unsettled_advanceTo d s) w r

theorem ended_tick : Ended s (tick s) :=
  ended_quiet hs.2 (unsettled_elapse 1 s) (composed_elapse hs.1 1)

theorem ended_receiveByte (b : Byte) : Ended s (receiveByte b s) := (ended_refl hs).link (linkOnly_receiveByte b s)

theorem ended_byteGapPasses : Ended s (byteGapPasses s) := by
  unfold byteGapPasses
  split
  · exact ended_refl hs
  · exact (ended_advanceTo hs _).link (linkOnly_discardFrame _)

/-- The answer to a beacon is built after the permits are composed, and changes none of them (R154). -/
theorem ended_takeBeacon (f : Face) (bs : List Byte) : Ended s (takeBeacon f bs s) := by
  unfold takeBeacon
  split
  · exact ended_refl hs
  · rename_i b _
    unfold goodBeacon
    dsimp only
    generalize hv : trainDoors f _ b _ = v
    have w : Within f s v := hv ▸ ((((within_linkPresent f b s).then (within_arrived f b _)).then
      (within_motion f _ b _)).then (within_offer f _ _)).then (within_trainDoors f _ b _)
    have r : Restful f s v := hv ▸ ((((restful_linkPresent f b s).then (restful_arrived f b _)).then
      (restful_motion f _ b _)).then (restful_offer f _ _)).then (restful_trainDoors f _ b _)
    have h : Ended s (answerBeacon f b (settle v)) := (ended_event hs (unsettled_refl s) w r).modBerth f _
    rwa [settle_composed h.composed.1]

theorem ended_linkTimesOut (f : Face) : Ended s (linkTimesOut f s) := by
  unfold linkTimesOut
  split
  · exact ended_deadline hs _ (within_linkLost f _) (restful_linkLost f _)
  · exact ended_refl hs

theorem ended_strengthTaken (f : Face) (ss : List Strength) : Ended s (strengthTaken f ss s) := by
  unfold strengthTaken
  split
  · exact ended_refl hs
  · rename_i h
    have take : ∀ u, u.stateOf f = s.stateOf f → Restful f u (takeReading f ss u) := fun u k =>
      (plain_takeReading f ss u).restful (not_idle_of_service (k ▸ h))
    unfold awaitReading
    split
    · exact ended_event hs (unsettled_refl s) (within_takeReading f ss _) (take _ rfl)
    · exact ended_deadline hs _ (within_takeReading f ss _) (take _ (advanceTo_stateOf _ f s))

theorem ended_beginTurn (f : Face) : Ended s (beginTurn f s) :=
  ended_quiet hs.2 (unsettled_of_face (within_beginTurn f s) (restful_beginTurn f s)) (composed_beginTurn hs.1 f)

/-- A transaction ends after its work. -/
theorem ended_transactionOver {f : Face} {u v : State} (h : Unsettled s u) (w : Within f u v) (r : Restful f u v) :
    Ended s (transactionOver f v) :=
  ended_event hs h ((w.then (within_endTransaction f _)).then (within_busContinue f _))
    ((r.then (restful_modBus f _ _)).then (restful_busContinue f _))

theorem ended_takeReport (f : Face) (bs : List Byte) : Ended s (takeReport f bs s) := by
  unfold takeReport
  split
  · exact ended_refl hs
  · exact ended_transactionOver hs (unsettled_refl s) (within_reportTaken f _ _ s) (restful_reportTaken f _ _ s)

theorem ended_takeAck (f : Face) (bs : List Byte) : Ended s (takeAck f bs s) := by
  unfold takeAck
  split
  · exact ended_refl hs
  · exact ended_transactionOver hs (unsettled_refl s)
      (((within_answered f _ s).then (within_orderTaken f _ _)).then (within_recheckLocked f _ _))
      (((restful_answered f _ s).then (restful_orderTaken f _ _)).then (restful_recheckLocked f _ _))

theorem ended_takeBusy (f : Face) (bs : List Byte) : Ended s (takeBusy f bs s) := by
  unfold takeBusy
  split
  · exact ended_refl hs
  · exact ended_transactionOver hs (unsettled_refl s)
      (((within_answered f _ s).then (within_orderBusy f _ _ _)).then (within_recheckLocked f _ _))
      (((restful_answered f _ s).then (restful_orderBusy f _ _ _)).then (restful_recheckLocked f _ _))

/-- A missed transaction ends, or is sent once more, which no permit is read from. -/
theorem ended_missed (f : Face) (t : Trans) (d : Time) : Ended s (missed f t (advanceTo d s)) := by
  have u := unsettled_advanceTo d s
  unfold missed
  split
  · exact ended_transactionOver hs u (within_refl f _) (restful_refl f _)
  · split
    · exact ended_transactionOver hs u (within_missedEnd f _ _) (restful_missedEnd f _ _)
    · split
      · exact ended_transactionOver hs u (within_orderMissed f _ _) (restful_orderMissed f _ _)
      · exact ended_quiet hs.2 (u.then (unsettled_of_face (within_start f _ _ _) (restful_start f _ _ _)))
          (composed_start (composed_advanceTo hs.1 d) f _ _)

theorem ended_windowCloses (f : Face) : Ended s (windowCloses f s) := by
  unfold windowCloses
  split
  · exact ended_refl hs
  · split
    · exact ended_refl hs
    · exact ended_missed hs f _ _

theorem ended_queryAnswered (f : Face) (pulled : Bool) : Ended s (queryAnswered f pulled s) := by
  unfold queryAnswered
  split
  · exact ended_refl hs
  · split
    · exact ended_transactionOver hs (unsettled_advanceTo _ s) (within_modBus f _ _) (restful_modBus f _ _)
    · exact ended_refl hs

end

/-! ### Lines (R151) -/

/-- A line's filter is one of its face's, or that of FIRE. -/
theorem setLine_face (l : Line) (x : LineFilter) (s : State) (g : Face) :
    (setLine l x s).face g
      = { s.face g with
          enable := ((setLine l x s).face g).enable
          loop := ((setLine l x s).face g).loop } := by
  cases l with
  | enable f | loop f => cases f <;> cases g <;> rfl
  | fire => rfl

theorem unsettled_setLine (l : Line) (x : LineFilter) (s : State) : Unsettled s (setLine l x s) := by
  have seq : ∀ g, ((setLine l x s).face g).seq = (s.face g).seq := fun g => by rw [setLine_face]
  exact unsettled_of (by cases l <;> exact List.Sublist.refl _) (fun g => by rw [setLine_face])
    (fun g => by rw [State.stateOf, seq]; rfl) (fun g => by rw [seq]) (fun g => by rw [seq]) (by cases l <;> exact id)

/-- A raw level changes no filtered one. -/
theorem lineInput_loop (l : Line) (level : Bool) (s : State) (g : Face) :
    ((setLine l ((s.line l).input level s.time) s).face g).loop.level = (s.face g).loop.level := by
  cases l with
  | enable f | loop f => cases f <;> cases g <;> rfl
  | fire => rfl

theorem ended_lineInput {s : State} (hs : PermitComposed s) (l : Line) (level : Bool) :
    Ended s (setLine l ((s.line l).input level s.time) s) := by
  have u := unsettled_setLine l ((s.line l).input level s.time) s
  refine ended_quiet hs.2 u fun g => ?_
  rw [u.permit, hs.1 g, permitComposed_of ?_ (lineInput_loop l level s g) ?_ ?_]
  · rw [State.stateOf, setLine_face]; rfl
  · cases l <;> rfl
  · rw [setLine_face]

/-- What each of a line's readers makes of its new level. -/
theorem unsettled_offerLine (l : Line) (s : State) : Unsettled s (offerLine l s) := by
  cases l with
  | enable f =>
    refine unsettled_of_face (f := f) ?_ (restful_enableOffered f s)
    exact Within.then (within_ite (within_post f _ _ _ _ s) (within_refl f s)) (within_acceptanceTest f _)
  | loop f => exact unsettled_of_face (within_loopChanged f s) (restful_loopChanged f s)
  | fire =>
    exact (unsettled_of_face (within_fireChanged .a s) (restful_fireChanged .a s)).then
      (unsettled_of_face (within_fireChanged .b _) (restful_fireChanged .b _))

theorem ended_filterEnds {s : State} (hs : PermitComposed s) (l : Line) : Ended s (filterEnds l s) := by
  unfold filterEnds
  split
  · exact ended_refl hs
  · exact ended_settle hs.2 (((unsettled_advanceTo _ s).then (unsettled_setLine l _ _)).then (unsettled_offerLine l _))

/-! ### Deadlines of the Face Sequencer -/

section
variable {s : State} (hs : PermitComposed s)
include hs

theorem ended_openTravelEnds (f : Face) : Ended s (openTravelEnds f s) := by
  unfold openTravelEnds
  split
  · split
    · exact ended_deadline hs _ (within_openTravelPassed f _) (restful_openTravelPassed f _)
    · exact ended_refl hs
  · exact ended_refl hs

theorem ended_dwellEnds (f : Face) : Ended s (dwellEnds f s) := by
  unfold dwellEnds
  split
  · split
    · rename_i h
      exact ended_deadline hs _ (within_dwellExpired f _)
        ((plain_dwellExpired f _).restful (not_idle_of_state ((advanceTo_stateOf _ f s).trans h)))
    · exact ended_refl hs
  · exact ended_refl hs

/-- A face whose connection hold waits is in service. -/
theorem waitingHold_service {f : Face} {h : HoldRecord} (k : s.waitingHold f = some h) :
    s.stateOf f ≠ .outOfService := fun o => by
  have sub := (hs.2.1 f o).2
  simp [State.waitingHold, sub] at k

theorem ended_minimumPasses (f : Face) : Ended s (minimumPasses f s) := by
  unfold minimumPasses
  split
  · exact ended_refl hs
  · rename_i h hw
    split
    · refine ended_event hs (unsettled_elapse h.lacks s) ((within_setCap f none _).then (within_satisfied f _))
        (((restful_setCap f none _).toPlain.then (plain_satisfied f _)).restful (not_idle_of_service ?_))
      rw [elapse_stateOf]
      exact waitingHold_service hs hw
    · exact ended_refl hs

theorem ended_capPasses (f : Face) : Ended s (capPasses f s) := by
  unfold capPasses
  split
  · exact ended_refl hs
  · rename_i d hd
    obtain ⟨h, hw, -⟩ := Option.bind_eq_some_iff.mp hd
    refine ended_deadline hs d (within_capPassed f _) ((plain_capPassed f _).restful (not_idle_of_service ?_))
    rw [advanceTo_stateOf]
    exact waitingHold_service hs hw

theorem ended_warningEnds (f : Face) : Ended s (warningEnds f s) := by
  unfold warningEnds
  split
  · split
    · exact ended_deadline hs _ (within_warningOver f _) (restful_warningOver f _)
    · exact ended_refl hs
  · exact ended_refl hs

theorem ended_doorwayEnds (f : Face) : Ended s (doorwayEnds f s) := by
  unfold doorwayEnds
  split
  · split
    · exact ended_deadline hs _ (within_doorwayOver f _) (restful_doorwayOver f _)
    · exact ended_refl hs
  · exact ended_refl hs

theorem ended_pauseEnds (f : Face) (n : Nat) : Ended s (pauseEnds f n s) := by
  unfold pauseEnds
  split
  · exact ended_refl hs
  · exact ended_deadline hs _ (within_pauseOver f n _) (restful_pauseOver f n _)

theorem ended_travelEnds (f : Face) (n : Nat) : Ended s (travelEnds f n s) := by
  unfold travelEnds
  split
  · exact ended_refl hs
  · exact ended_deadline hs _ (within_travelOver f n _) (restful_travelOver f n _)

theorem ended_proofEnds (f : Face) (n : Nat) : Ended s (proofEnds f n s) := by
  unfold proofEnds
  split
  · exact ended_refl hs
  · exact ended_deadline hs _ (within_proofOver f n _) (restful_proofOver f n _)

end

/-! ### Requests -/

/-- A hold record may be made as well as replaced. -/
theorem unsettled_makeHold (f : Face) (minimum cap : Nat) (s : State) : Unsettled s (makeHold f minimum cap s) :=
  unsettled_modSeq (restful_modSeq f _ s)

theorem within_retestHold (f : Face) (cap : Nat) (s : State) : Within f s (retestHold f cap s) :=
  within_ite (within_ite ((within_setCap f none s).then (within_satisfied f _)) (within_setCap f _ s))
    (within_refl f s)

theorem unsettled_writeMask (f : Face) (mask : FlagSet) (s : State) : Unsettled s (writeMask f mask s) :=
  (unsettled_modFault f _ s).then (unsettled_of_face
    (within_ite ((within_capture f _ _ _).then (within_summarySet f _)) (within_refl f _))
    (restful_when fun _ => (restful_capture f _ _ _).then (restful_summarySet f _)))

theorem bayEntry_shift_permit (d : Time) (e : BayEntry) :
    ((e.shift d).locked && !(e.shift d).silent && !(e.shift d).gapIsActive)
      = (e.locked && !e.silent && !e.gapIsActive) := by
  have h : (e.shift d).gapIsActive = e.gapIsActive := by
    unfold BayEntry.gapIsActive BayEntry.shift
    cases e.gap <;> rfl
  rw [h]
  rfl

section
variable {s : State} (hs : PermitComposed s)
include hs

theorem ended_serve {body : Body} (h : Ended s (body s).1) (fr : Frame) : Ended s (serve fr body s) := by
  rcases serve_cases fr body s with ⟨-, e⟩ | ⟨-, e⟩ <;> rw [e]
  · exact h.link ⟨rfl, rfl, rfl, rfl⟩
  · exact (ended_refl hs).link (linkOnly_enterBuffer fr s)

theorem ended_needLength {k : Body} (h : Ended s (k s).1) (ok : Bool) : Ended s (needLength ok k s).1 := by
  cases ok with
  | true => exact h
  | false => exact ended_refl hs

theorem ended_needFace {k : Face → Body} (h : ∀ f, Ended s (k f s).1) (p : List Byte) :
    Ended s (needFace p k s).1 := by
  cases hf : faceOfByte (p.getD 0 0xFF#8) with
  | some f => rw [needFace_some hf]; exact h f
  | none => rw [needFace_none hf]; exact ended_refl hs

theorem ended_needConfig {k : Body} (h : Ended s (k s).1) : Ended s (needConfig k s).1 := by
  unfold needConfig
  split
  · exact ended_refl hs
  · split
    · exact h
    · exact ended_refl hs

theorem ended_needBay {k : Body} (h : Ended s (k s).1) (f : Face) (n : Nat) : Ended s (needBay f n k s).1 := by
  unfold needBay
  split
  · exact h
  · exact ended_refl hs

/-- A request that needs configuration, past its checks. -/
theorem ended_faceRequest {k : Face → Body} (h : ∀ f, Ended s (k f s).1) (len : Nat) (p : List Byte) :
    Ended s (faceRequest len p k s).1 :=
  ended_needLength hs (ended_needFace hs (fun f => ended_needConfig hs (h f)) p) _

theorem ended_finish {v : State} (u : Unsettled s v) (st : Status) (fields : State → List Byte) :
    Ended s (finish st fields v).1 :=
  ended_settle hs.2 u

/-- A request that has worked at its face. -/
theorem ended_work {f : Face} {v : State} (w : Within f s v) (r : Restful f s v) (st : Status)
    (fields : State → List Byte) : Ended s (finish st fields v).1 :=
  ended_finish hs (unsettled_of_face w r) st fields

/-! ### The requests of the Link Interface and of the Configuration Store -/

/-- TIME SET moves times alone, and no permit is read from a time. -/
theorem ended_setTime (t : Time) : Ended s (setTime t s) := by
  have hf : ∀ g, (setTime t s).face g = (s.face g).shift (t - s.time) := fun g => by cases g <;> rfl
  refine ended_quiet hs.2 (unsettled_of (List.Sublist.refl _) (fun g => by rw [hf]; rfl)
    (fun g => by rw [State.stateOf, hf]; rfl) (fun g => by rw [hf]; rfl) (fun g => by rw [hf]; rfl) id) fun g => ?_
  have hc : (setTime t s).permitComposed g = s.permitComposed g := by
    unfold State.permitComposed State.loopClosed State.stateOf
    rw [hf]
    simp only [FaceBlock.shift, FaceRecord.shift, LineFilter.shift, List.all_map, Function.comp_def,
      bayEntry_shift_permit]
    rfl
  rw [hc, hf]
  exact hs.1 g

theorem ended_loadBeginBody (p : List Byte) : Ended s (loadBeginBody p s).1 := by
  refine ended_needLength hs ?_ _
  split
  · exact ended_finish hs (unsettled_beginLoad s) _ _
  · exact ended_refl hs

/-- A record is kept while a load is open, when no permit stands. -/
theorem ended_storeRecord (h : s.store.load = .loading) (st : Store) : Ended s { s with store := st } :=
  ended_quiet hs.2 (unsettled_of (List.Sublist.refl _) (fun _ => rfl) (fun _ => rfl) (fun _ => rfl) (fun _ => rfl)
    fun _ => h) (composed_out hs.1 (hs.2.2 h) fun _ => rfl)

theorem ended_loadRecordBody (p : List Byte) : Ended s (loadRecordBody p s).1 := by
  refine ended_needLength hs ?_ _
  split
  · rename_i h
    split
    iterate 2 exact ended_refl hs
    iterate 2 exact ended_storeRecord hs h _
  · exact ended_refl hs

theorem ended_loadEndBody (p : List Byte) : Ended s (loadEndBody p s).1 := by
  refine ended_needLength hs ?_ _
  split
  · split
    · exact (ended_refl hs).link ⟨rfl, rfl, rfl, rfl⟩
    · exact ended_finish hs (unsettled_completeLoad _ s) _ _
  · exact ended_refl hs

theorem ended_loadAbandonBody (p : List Byte) : Ended s (loadAbandonBody p s).1 := by
  refine ended_needLength hs ?_ _
  split
  · exact ended_finish hs (unsettled_abandonLoad s) _ _
  · exact ended_refl hs

/-- Records that leave the queue with a FETCH EVENTS. -/
theorem ended_takeBatch : Ended s (takeBatch s) :=
  ended_quiet hs.2 (unsettled_of ((List.drop_sublist _ _).filter _) (fun _ => rfl) (fun _ => rfl) (fun _ => rfl)
    (fun _ => rfl) id) hs.1

theorem ended_fetchEventsBody (p : List Byte) : Ended s (fetchEventsBody p s).1 := by
  refine ended_needLength hs ?_ _
  dsimp only
  split
  · exact ended_takeBatch hs
  · exact ended_refl hs

/-! ### The orders to a face -/

theorem ended_expectConsistBody (p : List Byte) : Ended s (expectConsistBody p s).1 := by
  refine ended_needLength hs (ended_needFace hs (fun f => ended_needConfig hs ?_) p) _
  split
  · exact ended_refl hs
  · exact ended_work hs (within_modBerth f _ s) (restful_modBerth f _ s) _ _

theorem ended_openOrderBody (p : List Byte) : Ended s (openOrderBody p s).1 := by
  refine ended_faceRequest hs (fun f => ?_) _ p
  dsimp only
  split
  · exact ended_refl hs
  split
  · exact ended_refl hs
  split
  · exact ended_refl hs
  · exact ended_work hs ((within_placeOrder f _ s).then (within_acceptanceTest f _))
      ((restful_placeOrder f _ s).then (restful_acceptanceTest f _)) _ _

theorem ended_withdrawOrderBody (p : List Byte) : Ended s (withdrawOrderBody p s).1 := by
  refine ended_faceRequest hs (fun f => ?_) _ p
  dsimp only
  split
  · exact ended_refl hs
  split
  · exact ended_work hs (within_modSeq f _ s (by exact fun h => h)) (restful_modSeq f _ s) _ _
  split <;> exact ended_refl hs

theorem ended_closeOrderBody (p : List Byte) : Ended s (closeOrderBody p s).1 := by
  refine ended_faceRequest hs (fun f => ?_) _ p
  split
  · rename_i h
    exact ended_work hs (within_enterClosing f 2 s) ((plain_enterClosing f 2 s).restful (not_idle_of_state h)) _ _
  split
  · rename_i h
    exact ended_work hs (within_startHeldClose f s) ((plain_startHeldClose f s).restful (not_idle_of_state h)) _ _
  · exact ended_refl hs

theorem ended_remeasureBody (p : List Byte) : Ended s (remeasureBody p s).1 := by
  refine ended_faceRequest hs (fun f => ?_) _ p
  split
  · rename_i h
    exact ended_work hs (within_enterMeasuring f s) ((plain_enterMeasuring f s).restful (not_idle_of_state h)) _ _
  · exact ended_refl hs

theorem ended_dwellSetBody (p : List Byte) : Ended s (dwellSetBody p s).1 := by
  refine ended_faceRequest hs (fun f => ?_) _ p
  split
  · exact ended_refl hs
  · rename_i h
    exact ended_work hs (within_dwellSet f _ s) ((plain_dwellSet f _ s).restful (not_idle_of_service h)) _ _

theorem ended_connectHoldBody (p : List Byte) : Ended s (connectHoldBody p s).1 := by
  refine ended_faceRequest hs (fun f => ?_) _ p
  split
  · exact ended_refl hs
  split
  · exact ended_refl hs
  · exact ended_finish hs ((unsettled_makeHold f _ _ s).then
      (unsettled_of_face (within_retestHold f _ _) (restful_retestHold f _ _))) _ _

theorem ended_connectCancelBody (p : List Byte) : Ended s (connectCancelBody p s).1 := by
  refine ended_faceRequest hs (fun f => ?_) _ p
  split
  · exact ended_work hs (within_cancelHold f s) (restful_cancelHold f s) _ _
  · exact ended_refl hs

theorem ended_isolationBody (mark : Bool) (p : List Byte) : Ended s (isolationBody mark p s).1 := by
  refine ended_faceRequest hs (fun f => ended_needBay hs ?_ f _) _ p
  split
  · exact ended_work hs ((within_modBay f _ _ s).then (within_acceptanceTest f _))
      ((restful_modBay f _ _ s).then (restful_acceptanceTest f _)) _ _
  · exact ended_refl hs

/-! ### The requests of the Fault Unit and of the Release Monitor -/

theorem ended_faultMaskBody (p : List Byte) : Ended s (faultMaskBody p s).1 := by
  refine ended_faceRequest hs (fun f => ?_) _ p
  split
  · exact ended_refl hs
  · exact ended_finish hs ((unsettled_writeMask f _ s).then
      (unsettled_of_face (within_acceptanceTest f _) (restful_acceptanceTest f _))) _ _

theorem ended_faultClearBody (p : List Byte) : Ended s (faultClearBody p s).1 := by
  refine ended_faceRequest hs (fun f => ?_) _ p
  split
  · exact ended_refl hs
  · exact ended_work hs (within_clearFaults f _ s) (restful_clearFaults f _ s) _ _

theorem ended_faceResumeBody (p : List Byte) : Ended s (faceResumeBody p s).1 := by
  refine ended_faceRequest hs (fun f => ?_) _ p
  split
  · rename_i h
    split
    · exact ended_refl hs
    · exact ended_work hs (within_enterSurvey f s) ((plain_enterSurvey f s).restful (not_idle_of_state h)) _ _
  · exact ended_refl hs

theorem ended_emergencyOpenBody (p : List Byte) : Ended s (emergencyOpenBody p s).1 := by
  refine ended_faceRequest hs (fun f => ?_) _ p
  split
  · exact ended_refl hs
  split
  · exact ended_refl hs
  · exact ended_work hs (within_appear f _ s) (restful_appear f _ s) _ _

theorem ended_releaseResetBody (p : List Byte) : Ended s (releaseResetBody p s).1 := by
  refine ended_faceRequest hs (fun f => ?_) _ p
  split
  · rename_i h
    split
    · exact ended_refl hs
    · exact ended_work hs (within_resetRelease f s) ((plain_resetRelease f s).restful (not_idle_of_state h)) _ _
  · exact ended_refl hs

/-- Whatever a request's command serves, its body ends its own event where it changes anything. -/
theorem ended_requestBody (c : Instr) : Ended s (requestBody c s).1 := by
  cases c with
  | timeSet _ p => exact ended_needLength hs (ended_setTime hs _) _
  | identify _ p => exact ended_needLength hs (ended_refl hs) _
  | statusFace _ p => exact ended_needLength hs (ended_needFace hs (fun _ => ended_refl hs) p) _
  | statusBays _ p | readAlignment _ p | readCounts _ p | readFaults _ p | readRelease _ p =>
    exact ended_faceRequest hs (fun _ => ended_refl hs) _ p
  | loadBegin _ p => exact ended_loadBeginBody hs p
  | loadRecordBay | loadRecordCell | consistFirstPart | consistContinuation | loadRecordStop | loadRecordParam
  | loadRecordUnknownKind => exact ended_loadRecordBody hs _
  | loadEnd _ p | loadEndEarly _ p => exact ended_loadEndBody hs p
  | loadAbandon _ p => exact ended_loadAbandonBody hs p
  | expectConsist _ p => exact ended_expectConsistBody hs p
  | openOrder _ p => exact ended_openOrderBody hs p
  | withdrawOrder _ p => exact ended_withdrawOrderBody hs p
  | closeOrder _ p => exact ended_closeOrderBody hs p
  | remeasure _ p => exact ended_remeasureBody hs p
  | dwellSet _ p => exact ended_dwellSetBody hs p
  | connectHold _ p => exact ended_connectHoldBody hs p
  | connectCancel _ p => exact ended_connectCancelBody hs p
  | isolateBay _ p | restoreBay _ p => exact ended_isolationBody hs _ p
  | faultMask _ p => exact ended_faultMaskBody hs p
  | faultClear _ p => exact ended_faultClearBody hs p
  | faceResume _ p => exact ended_faceResumeBody hs p
  | emergencyOpen _ p => exact ended_emergencyOpenBody hs p
  | releaseReset _ p => exact ended_releaseResetBody hs p
  | fetchEvents _ p | fetchEventsRepeat _ p => exact ended_fetchEventsBody hs p
  | _ => exact ended_refl hs

/-- Every command but power and RESTART ends its event with the permits composed (R154). -/
theorem ended_exec {c : Instr} (hp : c ≠ .powerOn) (hr : ∀ tag p, c ≠ .restart tag p) {t : State}
    (h : exec c s = .next t) : Ended s t := by
  cases hf : requestFrame c with
  | some fr =>
    rw [exec_request hf (fun tag => hr tag [])] at h
    cases h
    exact ended_serve hs (ended_requestBody hs c) fr
  | none =>
    cases c with
    | powerOn => exact absurd rfl hp
    | unknownKind kind tag p =>
      have k : namesRequest kind = true := by simpa [requestFrame] using hf
      simp only [exec, execUnknownKind, k, if_true] at h
      cases h
      exact ended_refl hs
    | frameComplete b | stationLinkByte b => cases h; exact ended_receiveByte hs b
    | interByteGap => cases h; exact ended_byteGapPasses hs
    | beacon f bs => cases h; exact ended_takeBeacon hs f bs
    | linkBecomesLost f => cases h; exact ended_linkTimesOut hs f
    | strengthReading f ss => cases h; exact ended_strengthTaken hs f ss
    | turn f => cases h; exact ended_beginTurn hs f
    | reportAnswer f bs => cases h; exact ended_takeReport hs f bs
    | ack f bs => cases h; exact ended_takeAck hs f bs
    | busy f bs => cases h; exact ended_takeBusy hs f bs
    | answerWindowClosed f => cases h; exact ended_windowCloses hs f
    | attentionQueryAnswer f pulled => cases h; exact ended_queryAnswered hs f pulled
    | lineInputChange l level => cases h; exact ended_lineInput hs l level
    | lineFilterExpiry l => cases h; exact ended_filterEnds hs l
    | openTravelDeadline f => cases h; exact ended_openTravelEnds hs f
    | dwellExpiry f => cases h; exact ended_dwellEnds hs f
    | minimumReached f => cases h; exact ended_minimumPasses hs f
    | capDeadline f => cases h; exact ended_capPasses hs f
    | endOfWarning f => cases h; exact ended_warningEnds hs f
    | doorwayDeadline f => cases h; exact ended_doorwayEnds hs f
    | reopenPauseEnd f n => cases h; exact ended_pauseEnds hs f n
    | closeTravelLimit f n => cases h; exact ended_travelEnds hs f n
    | lockProofDeadline f n => cases h; exact ended_proofEnds hs f n
    | _ => cases hf

end

/-! ### Power and RESTART -/

/-- What a reset leaves: the permits composed, and no PERMIT_CHANGED that did not stand before (R157). -/
structure Reset (s t : State) : Prop where
  composed : PermitComposed t
  records : t.permitRecords.Sublist s.permitRecords

/-- A RESTART is refused for its length or resets; one behind an older frame enters the buffer. -/
theorem reset_restart {s : State} (hs : PermitComposed s) (tag : Byte) (p : List Byte) {t : State}
    (h : exec (.restart tag p) s = .next t) : Reset s t := by
  cases h
  split
  · obtain ⟨hc, he⟩ := resetWorking_law (dropHeld (leaveBuffer (sendReply ⟨0x03#8, tag, p⟩ ⟨.done, []⟩ s)))
    exact ⟨hc, by rw [restart, he]; exact List.nil_sublist _⟩
  · refine ⟨(ended_serve hs (body := refuse .badLength) (ended_refl hs) _).composed, ?_⟩
    rcases serve_cases ⟨0x03#8, tag, p⟩ (refuse .badLength) s with ⟨-, e⟩ | ⟨-, e⟩ <;> rw [e]
    · exact List.Sublist.refl _
    · rw [State.permitRecords, enterBuffer_events]; exact List.Sublist.refl _

theorem reset_powerOn (s : State) : Reset s (powerOn s) := by
  obtain ⟨hc, he⟩ := powerOn_law s
  exact ⟨hc, by rw [he]; exact List.nil_sublist _⟩

/-- The command taken is power's or a RESTART. -/
def ResetNext (s : State) : Prop := ∃ c, s.pending.head? = some c ∧ (c = .powerOn ∨ ∃ tag p, c = .restart tag p)

/-- What a step leaves of the permits' signalling: a reset where its command is one, and else the end of an event. -/
theorem step_signals {s t : State} (hs : PermitComposed s) (h : step s = .next t) :
    (ResetNext s ∧ Reset s t) ∨ (¬ResetNext s ∧ Ended s t) := by
  unfold step at h
  cases hp : s.pending with
  | nil =>
    rw [hp] at h
    cases h
    exact .inr ⟨by simp [ResetNext, hp], ended_tick hs⟩
  | cons c cs =>
    rw [hp] at h
    dsimp only at h
    have hs' : PermitComposed { s with pending := cs } := hs
    by_cases hc : c = .powerOn ∨ ∃ tag p, c = .restart tag p
    · refine .inl ⟨⟨c, by rw [hp]; rfl, hc⟩, ?_⟩
      rcases hc with rfl | ⟨tag, p, rfl⟩
      · cases h
        have r := reset_powerOn { s with pending := cs }
        exact ⟨r.composed, r.records⟩
      · have r := reset_restart hs' tag p h
        exact ⟨r.composed, r.records⟩
    · have e := ended_exec hs' (fun x => hc (.inl x)) (fun tag p x => hc (.inr ⟨tag, p, x⟩)) h
      refine .inr ⟨?_, e.composed, e.queue⟩
      rintro ⟨d, hd, hk⟩
      rw [hp] at hd
      cases hd
      exact hc hk

/-! ### The obligation -/

/-- Settles O60. A step is a reset, which posts no PERMIT_CHANGED, or ends an event: the work before its end posts
none either, and the end composes both permits and posts each change behind every other record. -/
theorem permitIsTheComposition : Obligations.PermitIsTheComposition := by
  intro s t hs h
  have signals := step_signals hs h
  have composed : PermitComposed t := by
    rcases signals with ⟨-, r⟩ | ⟨-, e⟩
    · exact r.composed
    · exact e.composed
  refine ⟨composed, fun f => by rw [composed.1 f]; exact permitComposed_iff t f, ?_⟩
  intro changed record resets hchanged hrecord hresets
  obtain rfl : record = t.permitRecord := funext hrecord
  rcases signals with ⟨hreset, r⟩ | ⟨hreset, e⟩
  · refine ⟨fun _ x hx hk => ?_, fun f => ⟨fun _ hn => absurd (hresets.mpr hreset) hn, ?_⟩⟩
    · exact (List.mem_filter.mp (r.records.subset (List.mem_filter.mpr ⟨hx, by rw [hk]; rfl⟩))).1
    · exact (permitOf_count r.records f).trans (Nat.le_add_right _ _)
  · refine ⟨fun hr => absurd (hresets.mp hr) hreset, fun f => ⟨fun hc _ room => ?_, e.count f⟩⟩
    obtain ⟨before, after, heq, hafter⟩ := e.last ((hchanged f).mp hc) room
    exact ⟨before, after, heq, by rwa [hchanged (otherFace f)]⟩

end Sys2Proof.Machine
end
